-- ==== Sys2Proof/Word.lean ====
section
/-! DEFINITION. The word type of the block (R8) and the two-channel pair that TGT, CCR, LT and LED are kept in (R20). -/

namespace Sys2Proof

/-- A u16: the width of every numeric register (R8). -/
abbrev Word := BitVec 16

/-- A channel number, `ch` of R13: 1 or 2. -/
inductive Channel where
  | ch1
  | ch2
deriving DecidableEq, Repr, Inhabited

/-- A register held once per channel (R20: TGT[1..2], CCR[1..2], LT[1..2], LED[1..2]). -/
structure PerChannel (α : Type) where
  ch1 : α
  ch2 : α
deriving DecidableEq, Repr

/-- The five period counters C[1..5] (R23). -/
structure Counters where
  c1 : Word
  c2 : Word
  c3 : Word
  c4 : Word
  c5 : Word
deriving DecidableEq, Repr

end Sys2Proof
end

