-- ==== Sys2Proof/Config.lean ====
section
/-! DEFINITION. The configuration of the block (R11, R34): the parameters it takes as arguments; and the free values, which are constants with no body. -/

namespace Sys2Proof

/-- The OperatingMode (R18, R25). -/
inductive OpMode where
  | absolute
  | relative
  | differential
deriving DecidableEq, Repr

/-- The kind of a Relative band (R145). -/
inductive RelKind where
  | stopBand
  | plus
  | minus
deriving DecidableEq, Repr

/-- The two-wheel motion primitive of a Differential band (R150). -/
inductive Prim where
  | ff
  | bb
  | fb
  | bf
deriving DecidableEq, Repr

/-- A sign, +1 or −1: ABS2_SIGN (R11) and the channel signs s1, s2 (R150). -/
inductive Sign where
  | plus
  | minus
deriving DecidableEq, Repr

/-- One row of RELBANDS: the open period band (lo, hi) and its channel and kind (R88, R145). -/
structure RelBand where
  lo : Word
  hi : Word
  ch : Channel
  kind : RelKind
deriving DecidableEq, Repr

/-- One row of DIFFBANDS: the open period band (lo, hi) and its primitive (R88, R150). -/
structure DiffBand where
  lo : Word
  hi : Word
  prim : Prim
deriving DecidableEq, Repr

/-- The calibration table PER_f, in sample ticks (R11, R144). -/
structure PerTable where
  per1000 : Word
  per2000 : Word
  per3000 : Word
  per4000 : Word
  per5000 : Word
  per6000 : Word
  per7000 : Word
  per8000 : Word
  per9000 : Word
  per10000 : Word
deriving DecidableEq, Repr

/-- MODE_MAP: for each value of the two mode pins a mode or none (R11, R86). -/
structure ModeMap where
  p00 : Option OpMode
  p01 : Option OpMode
  p10 : Option OpMode
  p11 : Option OpMode
deriving DecidableEq, Repr

/-- The parameters of R11. They never change while the block runs (R20, R34). -/
structure Config where
  per : PerTable
  servoMin : Word
  servoMax : Word
  servoRate : Word
  servoTimeout : Word
  settleWaits : Nat
  abs2Sign : Sign
  relBands : List RelBand
  diffBands : List DiffBand
  modeMap : ModeMap
  atomicCommit : Bool
deriving DecidableEq, Repr

/-- One write of a write list (R141): a ServoTarget, an indicator trigger, the watchdog clear. -/
inductive Write where
  | tgtw (ch : Channel) (v : Word)
  | ledtrig (ch : Channel)
  | wdclr
deriving DecidableEq, Repr, Inhabited

/-- FREE VALUE: the `n`-th event word of the environment, once the words that State lists are used up.
Any word at any step: a model admits every order of the events (R7, R215, R252). Log entry 3. -/
opaque Config.freeEvent : Nat → BitVec 4

/-- FREE VALUE: the period that INTERPRET reads from an OUT that holds Invalid, which R140 does not say. Log entry 6. -/
opaque Config.freePeriod : Nat → Word

/-- FREE VALUE: the write that COMMIT takes from an empty PEND, which R142 does not say. Log entry 7. -/
opaque Config.freeWrite : Nat → Write

end Sys2Proof
end

