-- ==== Sys2Proof/Machine/Params.lean ====
section
/-! DEFINITION. The fixed constants of R10, the default tables of R86, R145 and R150, the test configuration TC (decision D31), and the configuration checks of R12, R145 and R150. -/

namespace Sys2Proof

/-- MAX_JITTER_LEVEL (R10). -/
def maxJitterLevel : Nat := 5

/-- N_COUNTERS (R10). -/
def nCounters : Nat := 5

/-- REGIME_THRESHOLD (R10). -/
def regimeThreshold : Nat := 2000

/-- SERVO_CENTER (R10). -/
def servoCenter : Word := 6000#16

/-- LED_TIMEOUT (R10). -/
def ledTimeout : Nat := 15

/-- ABS_BASE (R10). -/
def absBase : Nat := 2000

/-- ABS_SPAN (R10). -/
def absSpan : Nat := 8000

/-- ABS_WIDTH (R10). -/
def absWidth : Nat := 250

/-- ABS_HYST (R10). -/
def absHyst : Nat := 100

/-- ABS2_OFFSET_MAG (R10). -/
def abs2OffsetMag : Nat := 350

/-- DIFF_SPAN (R10). -/
def diffSpan : Nat := 4000

/-- The number of magnitudes a rate word has, 0..31: the factor 32 of R147 and the offset of a MINUS word (R10: RATE_DEC_LO). -/
def rateSteps : Nat := 32

/-- N_WAITS_TOTAL = SETTLE_WAITS + 5 (R10, R12). -/
def Config.nWaitsTotal (cfg : Config) : Nat := cfg.settleWaits + nCounters

/-- The integer a sign stands for. -/
def Sign.toInt : Sign → Int
  | .plus => 1
  | .minus => -1

/-- MODE_MAP(P), P = (pin1, pin0) (R86). -/
def ModeMap.lookup (m : ModeMap) (p : BitVec 2) : Option OpMode :=
  if p = 0#2 then m.p00
  else if p = 1#2 then m.p01
  else if p = 2#2 then m.p10
  else m.p11

/-- The default MODE_MAP (R86). -/
def ModeMap.default : ModeMap :=
  { p00 := some .absolute, p01 := some .relative, p10 := some .differential, p11 := none }

/-- The default RELBANDS over a calibration table (R145). -/
def defaultRelBands (p : PerTable) : List RelBand :=
  [ { lo := p.per4000, hi := p.per3000, ch := .ch1, kind := .stopBand },
    { lo := p.per5000, hi := p.per4000, ch := .ch1, kind := .plus },
    { lo := p.per6000, hi := p.per5000, ch := .ch1, kind := .minus },
    { lo := p.per7000, hi := p.per6000, ch := .ch2, kind := .stopBand },
    { lo := p.per8000, hi := p.per7000, ch := .ch2, kind := .plus },
    { lo := p.per9000, hi := p.per8000, ch := .ch2, kind := .minus } ]

/-- The default DIFFBANDS over a calibration table (R150). -/
def defaultDiffBands (p : PerTable) : List DiffBand :=
  [ { lo := p.per7000, hi := p.per6000, prim := .ff },
    { lo := p.per8000, hi := p.per7000, prim := .bb },
    { lo := p.per9000, hi := p.per8000, prim := .fb },
    { lo := p.per10000, hi := p.per9000, prim := .bf } ]

/-- The calibration table of the test configuration TC (decision D31). -/
def PerTable.test : PerTable :=
  { per1000 := 1052#16, per2000 := 526#16, per3000 := 351#16, per4000 := 263#16, per5000 := 210#16,
    per6000 := 175#16, per7000 := 150#16, per8000 := 132#16, per9000 := 117#16, per10000 := 105#16 }

/-- The test configuration TC (decision D31). It is not the hardware's configuration. Log entry 2. -/
def Config.test : Config :=
  { per := PerTable.test, servoMin := 2100#16, servoMax := 9500#16, servoRate := 32#16,
    servoTimeout := 50#16, settleWaits := 1, abs2Sign := .plus,
    relBands := defaultRelBands PerTable.test, diffBands := defaultDiffBands PerTable.test,
    modeMap := ModeMap.default, atomicCommit := true }

/-- The bounds of every band of a table. -/
def relBounds (bs : List RelBand) : List (Nat × Nat) := bs.map fun b => (b.lo.toNat, b.hi.toNat)

/-- The bounds of every band of a table. -/
def diffBounds (bs : List DiffBand) : List (Nat × Nat) := bs.map fun b => (b.lo.toNat, b.hi.toNat)

/-- R12(a): PER_f is strictly decreasing in f. -/
def PerTable.decreasing (p : PerTable) : Bool :=
  [ decide (p.per2000.toNat < p.per1000.toNat), decide (p.per3000.toNat < p.per2000.toNat),
    decide (p.per4000.toNat < p.per3000.toNat), decide (p.per5000.toNat < p.per4000.toNat),
    decide (p.per6000.toNat < p.per5000.toNat), decide (p.per7000.toNat < p.per6000.toNat),
    decide (p.per8000.toNat < p.per7000.toNat), decide (p.per9000.toNat < p.per8000.toNat),
    decide (p.per10000.toNat < p.per9000.toNat) ].all id

/-- R12(b) for one table: every band has lo < hi. -/
def bandsProper (bs : List (Nat × Nat)) : Bool := bs.all fun b => decide (b.1 < b.2)

/-- R12(c) for two bands: they do not overlap as open intervals (DEDUCED, log entry 15). -/
def apart (a b : Nat × Nat) : Bool := decide (a.2 ≤ b.1) || decide (b.2 ≤ a.1)

/-- R12(c) for one table: no two of its bands overlap. -/
def bandsApart : List (Nat × Nat) → Bool
  | [] => true
  | b :: bs => bs.all (apart b) && bandsApart bs

/-- R12(g): both Absolute bands lie at periods of 0 or more. -/
def Config.absInRange (cfg : Config) : Bool :=
  decide (absWidth ≤ cfg.per.per1000.toNat)
    && decide (0 ≤ (cfg.per.per1000.toNat : Int) + cfg.abs2Sign.toInt * abs2OffsetMag - absWidth)

/-- The shape of the two band tables: RELBANDS has six rows, three per channel (R145), and DIFFBANDS has four (R150).
R12 does not list it; that a table of another shape is refused as a bad configuration is a DESIGN CHOICE (log entry 18). -/
def Config.tablesShaped (cfg : Config) : Bool :=
  [ decide ((cfg.relBands.filter fun r => decide (r.ch = .ch1)).length = 3),
    decide ((cfg.relBands.filter fun r => decide (r.ch = .ch2)).length = 3),
    decide (cfg.diffBands.length = 4) ].all id

/-- The configuration checks: R12, (a) to (g), and the shape of the tables (R145, R150). A step under a configuration that
fails one is refused. -/
def Config.ok (cfg : Config) : Bool :=
  [ cfg.per.decreasing,
    bandsProper (relBounds cfg.relBands), bandsProper (diffBounds cfg.diffBands),
    bandsApart (relBounds cfg.relBands), bandsApart (diffBounds cfg.diffBands),
    decide (cfg.servoMin.toNat ≤ cfg.servoMax.toNat),
    decide (cfg.servoRate.toNat ≤ 32),
    decide (cfg.settleWaits = 1) || decide (cfg.settleWaits = 2),
    cfg.absInRange,
    cfg.tablesShaped ].all id

end Sys2Proof
end

