-- ==== Sys2Proof/Syntax.lean ====
section
/-! DEFINITION. The operations of the block, one constructor for each row of spec/opcode_table.json (R93): five command classes, six phases and the reserved phase codes, four event kinds and the malformed event words. -/

namespace Sys2Proof

/-- The class of a command word (R80, R82). -/
inductive CmdClass where
  | abs
  | stop
  | inc
  | dec
  | rsvd
deriving DecidableEq, Repr

/-- The legal phases of the foreground FSM (R21, R84). -/
inductive Phase where
  | cycStart
  | waitEnter
  | waitPoll
  | validate
  | interpret
  | commit
deriving DecidableEq, Repr

/-- One operation of the block. A command class stands in the TGT register of a channel, which is why its constructor
names the channel (R80, R180); its encoding is the command word alone (DEDUCED, log entry 12). -/
inductive Instr where
  /-- ABS (R183): a pulse width, value above 2000. -/
  | abs (ch : Channel) (v : Word)
  /-- RSVD (R187): a reserved command word, 64 to 2000. -/
  | rsvd (ch : Channel) (v : Word)
  /-- DEC (R185): the word 32 + m. -/
  | dec (ch : Channel) (m : BitVec 5)
  /-- STOP (R186): the word 0. -/
  | stop (ch : Channel)
  /-- INC (R184): the word m, m not 0. -/
  | inc (ch : Channel) (m : BitVec 5)
  /-- CYC_START (R101). -/
  | cycStart
  /-- WAIT_ENTER (R103). -/
  | waitEnter
  /-- WAIT_POLL (R104). -/
  | waitPoll
  /-- VALIDATE (R108). -/
  | validate
  /-- INTERPRET (R140). -/
  | interpret
  /-- COMMIT (R142). -/
  | commit
  /-- A reserved phase code 0b11x, with its low bit x (R84, R89). -/
  | phaseReserved (x : BitVec 1)
  /-- TICK (R85): one foreground step at the current PHASE. -/
  | tick
  /-- EDGE (R214). -/
  | edge
  /-- ROLLOVER (R180). -/
  | rollover
  /-- RESET with the mode-pin value P (R240). -/
  | reset (p : BitVec 2)
  /-- A malformed event word (R85, R89). -/
  | eventMalformed (e : BitVec 4)
deriving DecidableEq, Repr

end Sys2Proof
end

