-- ==== Sys2Proof/Decode.lean ====
section
/-! DEFINITION. The decoders of the three encoded interfaces (R80 to R85), total on every word, and the encoder written from the same tables. -/

namespace Sys2Proof

/-- An encoded word and the interface it belongs to. A command word comes with the channel whose TGT holds it. -/
inductive CodeWord where
  | command (ch : Channel) (w : Word)
  | phase (c : BitVec 3)
  | event (e : BitVec 4)
deriving DecidableEq, Repr

/-- The class of a command word, tested in the order of R82. -/
def classify (v : Word) : CmdClass :=
  if regimeThreshold < v.toNat then .abs
  else if v.extractLsb' 6 10 ≠ 0#10 then .rsvd
  else if v.extractLsb' 5 1 = 1#1 then .dec
  else if v.extractLsb' 0 5 = 0#5 then .stop
  else .inc

/-- The magnitude field m, bits 4:0, of a rate-regime word (R81). -/
def magField (v : Word) : BitVec 5 := v.extractLsb' 0 5

/-- The operation that a command word in TGT[ch] stands for (R80, R82). -/
def decodeCommand (ch : Channel) (v : Word) : Instr :=
  match classify v with
  | .abs => .abs ch v
  | .rsvd => .rsvd ch v
  | .dec => .dec ch (magField v)
  | .stop => .stop ch
  | .inc => .inc ch (magField v)

/-- The code of a phase (R84). -/
def Phase.code : Phase → BitVec 3
  | .cycStart => 0b000#3
  | .waitEnter => 0b001#3
  | .waitPoll => 0b010#3
  | .validate => 0b011#3
  | .interpret => 0b100#3
  | .commit => 0b101#3

/-- The phase that a code stands for; none for the reserved codes (R84). -/
def phaseOf (c : BitVec 3) : Option Phase :=
  if c = 0b000#3 then some .cycStart
  else if c = 0b001#3 then some .waitEnter
  else if c = 0b010#3 then some .waitPoll
  else if c = 0b011#3 then some .validate
  else if c = 0b100#3 then some .interpret
  else if c = 0b101#3 then some .commit
  else none

/-- The operation of a phase code (R84, R89(b)). -/
def decodePhase (c : BitVec 3) : Instr :=
  match phaseOf c with
  | some .cycStart => .cycStart
  | some .waitEnter => .waitEnter
  | some .waitPoll => .waitPoll
  | some .validate => .validate
  | some .interpret => .interpret
  | some .commit => .commit
  | none => .phaseReserved (c.extractLsb' 0 1)

/-- The operation of an event word: the kind is e[1:0], the pins are e[3:2] (R85, R89(c)). -/
def decodeEvent (e : BitVec 4) : Instr :=
  if e.extractLsb' 0 2 = 3#2 then .reset (e.extractLsb' 2 2)
  else if e.extractLsb' 2 2 ≠ 0#2 then .eventMalformed e
  else if e.extractLsb' 0 2 = 0#2 then .tick
  else if e.extractLsb' 0 2 = 1#2 then .edge
  else .rollover

/-- The operation of an encoded word. -/
def decode : CodeWord → Instr
  | .command ch w => decodeCommand ch w
  | .phase c => decodePhase c
  | .event e => decodeEvent e

/-- The INC word of magnitude m (R80, R81). -/
def incWord (m : BitVec 5) : Word := 0b00000000000#11 ++ m

/-- The DEC word of magnitude field m, 32 + m (R80, R81). -/
def decWord (m : BitVec 5) : Word := 0b00000000001#11 ++ m

/-- The event word of a RESET with pins P (R85, R92). -/
def resetWord (p : BitVec 2) : BitVec 4 := p ++ 0b11#2

/-- The event word of a TICK (R85, R92). -/
def tickWord : BitVec 4 := 0b0000#4

/-- The event word of an EDGE (R85, R92). -/
def edgeWord : BitVec 4 := 0b0001#4

/-- The event word of a ROLLOVER (R85, R92). -/
def rolloverWord : BitVec 4 := 0b0010#4

/-- The encoded word of an operation (R80, R84, R85). -/
def encode : Instr → CodeWord
  | .abs ch v => .command ch v
  | .rsvd ch v => .command ch v
  | .dec ch m => .command ch (decWord m)
  | .stop ch => .command ch 0#16
  | .inc ch m => .command ch (incWord m)
  | .cycStart => .phase 0b000#3
  | .waitEnter => .phase 0b001#3
  | .waitPoll => .phase 0b010#3
  | .validate => .phase 0b011#3
  | .interpret => .phase 0b100#3
  | .commit => .phase 0b101#3
  | .phaseReserved x => .phase (0b11#2 ++ x)
  | .tick => .event tickWord
  | .edge => .event edgeWord
  | .rollover => .event rolloverWord
  | .reset p => .event (resetWord p)
  | .eventMalformed e => .event e

/-- The encoded word that `nbits` bits of value `w` stand for, for the host's questions. Sixteen bits are a command word,
read as TGT[1]'s. Phase codes (3 bits) and event words (4 bits) are both one byte there and share the values 0 to 7: a
byte is the event word, the machine's own input (R85), unless that event word is malformed and the byte is a phase code,
4 to 6. Log entry 4. -/
def tableCode (nbits w : Nat) : Option CodeWord :=
  if 2 ^ nbits ≤ w then none
  else if nbits = 16 then some (.command .ch1 (BitVec.ofNat 16 w))
  else if nbits = 3 then some (.phase (BitVec.ofNat 3 w))
  else if nbits = 4 then some (.event (BitVec.ofNat 4 w))
  else if nbits = 8 then
    if 16 ≤ w then none
    else if w = 4 ∨ w = 5 ∨ w = 6 then some (.phase (BitVec.ofNat 3 w))
    else some (.event (BitVec.ofNat 4 w))
  else none

/-- The operation the decoder reads from the bits `w` of a table row of `nbits` bits. -/
def decodeTableWord (nbits w : Nat) : Option Instr := (tableCode nbits w).map decode

end Sys2Proof
end

