-- ==== Sys2Proof/Machine/State.lean ====
section
/-! DEFINITION. The state of the block (R20 to R33), the reasons a step can stop, and the state after reset (R36). -/

namespace Sys2Proof.Machine

/-- The decode outcome held by OUT (R24, R87). -/
inductive DecodeOutcome where
  | invalid
  | valid (sum : Word)
deriving DecidableEq, Repr

/-- The block raises no exception and has no trap (R210), so no fault exists: the type is empty. Safe: no step
can answer with a fault. Log entry 13. -/
inductive Fault where
deriving DecidableEq, Repr

/-- The reasons a step is refused (R211). -/
inductive Refusal where
  /-- Raised by an arm of `exec` for an operation with no meaning yet; no arm of this model raises it. Safe. -/
  | notModelled (mnemonic : String)
  /-- ModePinsUnmapped: raised by RESET when MODE_MAP(P) = none (R86, R240). Safe: no claim follows from a refusal. -/
  | modePinsUnmapped
  /-- ReservedPhase: raised by a foreground step when PHASE holds 0b110 or 0b111 (R84, R89(b)). Safe. -/
  | reservedPhase
  /-- MalformedEvent: raised by a non-RESET event word with nonzero pin bits (R85, R89(c)). Safe. -/
  | malformedEvent
  /-- BadConfig: raised by every step under a configuration that fails R12, or whose band tables are not of the shape of
  R145 and R150 (log entry 18). Safe. -/
  | badConfig
  /-- NoReset: raised by a first event that is not a RESET (R85). Safe. -/
  | noReset
deriving DecidableEq, Repr

/-- The state. The registers are those of R20. `cfg` is the configuration: R20 makes it a parameter of the step, which
never changes it (log entry 1). `started`, `events` and `freeIndex` are the model's own (log entries 3, 5, 6). -/
structure State where
  /-- The configuration (R10, R11): read-only. -/
  cfg : Config
  /-- PHASE, the foreground FSM's phase, as its 3-bit code (R21, R84). -/
  phase : BitVec 3
  /-- WIX, the index of the current edge wait (R22). -/
  wix : Nat
  /-- C[1..5], the period counters (R23). -/
  c : Counters
  /-- OUT, the decode outcome (R24, R87). -/
  out : DecodeOutcome
  /-- MODE, the OperatingMode (R25). -/
  mode : OpMode
  /-- TGT[1..2], the ServoTargets (R26). -/
  tgt : PerChannel Word
  /-- CCR[1..2], the PWM CompareValues (R28). -/
  ccr : PerChannel Word
  /-- WD, the SignalLossTimeout (R29). -/
  wd : Word
  /-- LT[1..2], the IndicatorTimeouts (R30). -/
  lt : PerChannel Word
  /-- LED[1..2], the indicator bits, true = lit (R30). -/
  led : PerChannel Bool
  /-- EDGEF, the input line's falling-edge flag (R31). -/
  edgef : Bool
  /-- INTR, the Interrupted flag (R32). -/
  intr : Bool
  /-- PEND, the writes still to be done by the current commit (R33); empty under ATOMIC_COMMIT = true (log entry 22). -/
  pend : List Write
  /-- The model's own: a RESET has been taken, so that the run has begun (R85, R211). -/
  started : Bool
  /-- The model's own: the event words still to come, the first one next (R85). -/
  events : List (BitVec 4)
  /-- The model's own: the index of the next free value. -/
  freeIndex : Nat
deriving DecidableEq, Repr

/-- The machine right after a reset with the mode pins at 0b00 (R36, R240), under the test configuration TC (log entries 2
and 8), with no event listed. -/
def State.reset : State :=
  { cfg := Config.test
    phase := 0b000#3
    wix := 0
    c := { c1 := 0#16, c2 := 0#16, c3 := 0#16, c4 := 0#16, c5 := 0#16 }
    out := .invalid
    mode := .absolute
    tgt := { ch1 := 0#16, ch2 := 0#16 }
    ccr := { ch1 := 6000#16, ch2 := 6000#16 }
    wd := 0#16
    lt := { ch1 := 0#16, ch2 := 0#16 }
    led := { ch1 := false, ch2 := false }
    edgef := false
    intr := false
    pend := []
    started := true
    events := []
    freeIndex := 0 }

end Sys2Proof.Machine
end

