-- ==== Sys2Proof/Machine/Operands.lean ====
section
/-! DEFINITION. Reading and writing the banked registers, the 17 bits of OUT (R87), and narrowing an exact integer to a register (R9). -/

namespace Sys2Proof

/-- The register of a channel. -/
def PerChannel.get {α : Type} (p : PerChannel α) : Channel → α
  | .ch1 => p.ch1
  | .ch2 => p.ch2

/-- The pair with the register of one channel written. -/
def PerChannel.set {α : Type} (p : PerChannel α) (ch : Channel) (v : α) : PerChannel α :=
  match ch with
  | .ch1 => { p with ch1 := v }
  | .ch2 => { p with ch2 := v }

/-- The pair that holds one value in both channels. -/
def PerChannel.both {α : Type} (v : α) : PerChannel α := { ch1 := v, ch2 := v }

/-- C[k] for k = 1..5 (R23); no other index names a register (log entry 9). -/
def Counters.get (c : Counters) : Nat → Word
  | 1 => c.c1
  | 2 => c.c2
  | 3 => c.c3
  | 4 => c.c4
  | 5 => c.c5
  | _ => 0#16

/-- C[k] <- v for k = 1..5 (R23); an index that names no register writes nothing (log entry 9). -/
def Counters.set (c : Counters) (k : Nat) (v : Word) : Counters :=
  match k with
  | 1 => { c with c1 := v }
  | 2 => { c with c2 := v }
  | 3 => { c with c3 := v }
  | 4 => { c with c4 := v }
  | 5 => { c with c5 := v }
  | _ => c

/-- All five counters at 0 (R101). -/
def Counters.zero : Counters := { c1 := 0#16, c2 := 0#16, c3 := 0#16, c4 := 0#16, c5 := 0#16 }

/-- Truncation of an exact integer to u16 when a register is written (R9). -/
def narrow (x : Int) : Word := BitVec.ofInt 16 x

namespace Machine

/-- OUT as its 17 bits: valid in bit 16, sum in bits 15:0 (R87). -/
def DecodeOutcome.toBits : DecodeOutcome → BitVec 17
  | .invalid => 0#17
  | .valid s => 1#1 ++ s

/-- The outcome that 17 bits stand for (R87). R87 defines Invalid as valid = 0 with sum = 0 and gives the patterns with
valid = 0 and another sum no meaning: reading them as Invalid too is a DESIGN CHOICE (log entry 23). -/
def DecodeOutcome.ofBits (b : BitVec 17) : DecodeOutcome :=
  if b.extractLsb' 16 1 = 1#1 then .valid (b.extractLsb' 0 16) else .invalid

end Machine

end Sys2Proof
end

