-- ==== Sys2Proof/Machine/Flags.lean ====
section
/-! DEFINITION. The block's flags and indicator bits: EDGEF, INTR, LED with its timeout, and the watchdog's saturation test. -/

namespace Sys2Proof.Machine

/-- EDGEF <- b (R31). -/
def State.setEdgef (s : State) (b : Bool) : State := { s with edgef := b }

/-- INTR <- b (R32). -/
def State.setIntr (s : State) (b : Bool) : State := { s with intr := b }

/-- LED[ch] <- b (R30). -/
def State.setLed (s : State) (ch : Channel) (b : Bool) : State := { s with led := s.led.set ch b }

/-- LT[ch] <- v (R30). -/
def State.setLt (s : State) (ch : Channel) (v : Word) : State := { s with lt := s.lt.set ch v }

/-- The indicator trigger of a commit: LED[ch] <- 1 and LT[ch] <- 0 (R141). -/
def State.ledTrigger (s : State) (ch : Channel) : State := (s.setLed ch true).setLt ch 0#16

/-- The LED tick of one channel (R190): the register LT[ch] is written first, then tested. An LT of
65535, which no run reaches, wraps (R9; DEDUCED, log entry 11). -/
def State.ledTick (s : State) (ch : Channel) : State :=
  if ledTimeout < (s.lt.get ch + 1#16).toNat then (s.setLed ch false).setLt ch 0#16
  else s.setLt ch (s.lt.get ch + 1#16)

/-- WD >= SERVO_TIMEOUT, tested at handler entry (R180, R182). -/
def State.watchdogSaturated (s : State) : Bool := decide (s.cfg.servoTimeout.toNat ≤ s.wd.toNat)

/-- The test of the watchdog recenter: saturated, and in Differential mode (R182). -/
def State.mustRecenter (s : State) : Bool := s.watchdogSaturated && decide (s.mode = .differential)

end Sys2Proof.Machine
end

