-- ==== Sys2Proof/Machine/Ops.lean ====
section
/-! DEFINITION. The named operations over the registers: `goto`, register writes, the write list of a commit (R141), reset (R36, R240), and the entry to and return from the one interrupt (R216, R217). There are no memory operations: the block has no memory (R60). -/

namespace Sys2Proof.Machine

/-- `goto <PHASE>` (R13, R21). -/
def State.goto (s : State) (p : Phase) : State := { s with phase := p.code }

/-- WIX <- n (R22). -/
def State.setWix (s : State) (n : Nat) : State := { s with wix := n }

/-- C[1..5] <- c (R101). -/
def State.setCounters (s : State) (c : Counters) : State := { s with c := c }

/-- C[k] <- (C[k] + 1) mod 2^16 (R104, R107). -/
def State.countTick (s : State) (k : Nat) : State := { s with c := s.c.set k (s.c.get k + 1#16) }

/-- OUT <- o (R24). -/
def State.setOut (s : State) (o : DecodeOutcome) : State := { s with out := o }

/-- TGT[ch] <- v (R26). -/
def State.setTgt (s : State) (ch : Channel) (v : Word) : State := { s with tgt := s.tgt.set ch v }

/-- CCR[ch] <- v (R28). -/
def State.setCcr (s : State) (ch : Channel) (v : Word) : State := { s with ccr := s.ccr.set ch v }

/-- WD <- v (R29). -/
def State.setWd (s : State) (v : Word) : State := { s with wd := v }

/-- PEND <- w (R33). -/
def State.setPend (s : State) (w : List Write) : State := { s with pend := w }

/-- The model's own: the list of event words still to come. -/
def State.setEvents (s : State) (es : List (BitVec 4)) : State := { s with events := es }

/-- The model's own: a free value has been used. -/
def State.useFree (s : State) : State := { s with freeIndex := s.freeIndex + 1 }

/-- `apply` of one write (R141). -/
def applyWrite (w : Write) (s : State) : State :=
  match w with
  | .tgtw ch v => s.setTgt ch v
  | .ledtrig ch => s.ledTrigger ch
  | .wdclr => s.setWd 0#16

/-- `for x in W: apply(x)` (R140, R141). -/
def applyAll (ws : List Write) (s : State) : State :=
  match ws with
  | [] => s
  | w :: rest => applyAll rest (applyWrite w s)

/-- The reset of every register, with the mode read from the pins (R36, R240). -/
def State.resetRegs (s : State) (m : OpMode) : State :=
  { s with
    phase := Phase.code .cycStart
    wix := 0
    c := Counters.zero
    out := .invalid
    mode := m
    tgt := PerChannel.both 0#16
    ccr := PerChannel.both servoCenter
    wd := 0#16
    lt := PerChannel.both 0#16
    led := PerChannel.both false
    edgef := false
    intr := false
    pend := []
    started := true }

/-- Entry to the rollover handler, the block's one interrupt: it saves nothing and changes no mode; its one trace in the
foreground is INTR <- 1 (R181, R212, R216). -/
def State.enterRollover (s : State) : State := s.setIntr true

/-- Return from the rollover handler: there is no state to restore, and the foreground resumes at the PHASE it would have
run next (R217). -/
def State.returnFromRollover (s : State) : State := s

end Sys2Proof.Machine
end

