-- ==== Sys2Proof/Machine/Decoder.lean ====
section
/-! DEFINITION. The edge-capture FSM and the period-consensus filter: CYC_START, WAIT_ENTER, WAIT_POLL, VALIDATE (R100 to R115). -/

namespace Sys2Proof.Machine

/-- |x − y| < MAX_JITTER_LEVEL (R109). -/
def withinJitter (x y : Nat) : Bool := decide (((x : Int) - (y : Int)).natAbs < maxJitterLevel)

/-- accept(a, b, c) (R109). -/
def acceptTriplet (a b c : Word) : Bool :=
  withinJitter a.toNat b.toNat && withinJitter ((a.toNat + b.toNat) / 2) c.toNat

/-- avg(a, b, c) (R109). -/
def avgTriplet (a b c : Word) : Word := narrow ((a.toNat + b.toNat + c.toNat) / 3 : Nat)

/-- The consensus filter: the earliest accepted triplet gives the sum (R109, R111). -/
def consensus (c : Counters) : DecodeOutcome :=
  if acceptTriplet c.c1 c.c2 c.c3 then .valid (avgTriplet c.c1 c.c2 c.c3)
  else if acceptTriplet c.c2 c.c3 c.c4 then .valid (avgTriplet c.c2 c.c3 c.c4)
  else if acceptTriplet c.c3 c.c4 c.c5 then .valid (avgTriplet c.c3 c.c4 c.c5)
  else .invalid

/-- CYC_START (R101). -/
def execCycStart (s : State) : Host.Outcome State Fault Refusal :=
  .next (((((s.setCounters Counters.zero).setIntr false).setOut .invalid).setWix 0).goto .waitEnter)

/-- WAIT_ENTER (R103): clear before wait. -/
def execWaitEnter (s : State) : Host.Outcome State Fault Refusal :=
  .next ((s.setEdgef false).goto .waitPoll)

/-- The state after one poll (R104): the abort is tested first, then the edge, then the tick is counted. -/
def pollOnce (s : State) : State :=
  if s.intr then s.goto .cycStart
  else if s.edgef then
    if s.wix = s.cfg.nWaitsTotal - 1 then s.goto .validate
    else (s.setWix (s.wix + 1)).goto .waitEnter
  else if s.cfg.settleWaits ≤ s.wix then (s.countTick (s.wix - s.cfg.settleWaits + 1)).goto .waitPoll
  else s.goto .waitPoll

/-- WAIT_POLL (R104). -/
def execWaitPoll (s : State) : Host.Outcome State Fault Refusal := .next (pollOnce s)

/-- The phase after VALIDATE (R108). -/
def DecodeOutcome.nextPhase : DecodeOutcome → Phase
  | .invalid => .cycStart
  | .valid _ => .interpret

/-- VALIDATE (R108, R112). -/
def execValidate (s : State) : Host.Outcome State Fault Refusal :=
  .next ((s.setOut (consensus s.c)).goto (consensus s.c).nextPhase)

end Sys2Proof.Machine
end

