-- ==== Sys2Proof/Machine/Interpreter.lean ====
section
/-! DEFINITION. The band mapper and the commit: the three mode mappers, INTERPRET and COMMIT (R140 to R158). -/

namespace Sys2Proof

/-- `sum in (lo, hi)`, open at both ends (R14). -/
def inBand (lo hi : Int) (sum : Nat) : Bool := decide (lo < sum) && decide ((sum : Int) < hi)

/-- `sum` lies in the band of a RELBANDS row (R146). -/
def RelBand.holds (r : RelBand) (sum : Nat) : Bool := inBand r.lo.toNat r.hi.toNat sum

/-- `sum` lies in the band of a DIFFBANDS row (R151). -/
def DiffBand.holds (r : DiffBand) (sum : Nat) : Bool := inBand r.lo.toNat r.hi.toNat sum

/-- mag(r, sum), the rate magnitude in a ramp band (R147). -/
def RelBand.mag (r : RelBand) (sum : Nat) : Nat :=
  ((r.hi.toNat - sum) * rateSteps) / (r.hi.toNat - r.lo.toNat)

/-- The value that a Relative row gives (R146). -/
def RelBand.value (r : RelBand) (sum : Nat) : Nat :=
  match r.kind with
  | .stopBand => 0
  | .plus => r.mag sum
  | .minus => rateSteps + r.mag sum

/-- The first row of RELBANDS of channel `ch` that holds `sum` (R146). -/
def relRow (bands : List RelBand) (ch : Channel) (sum : Nat) : Option RelBand :=
  bands.find? fun r => decide (r.ch = ch) && r.holds sum

/-- The writes of one channel in Relative mode: its target, and its trigger when one of its rows is hit (R146, R148, R149). -/
def relWrites (bands : List RelBand) (ch : Channel) (sum : Nat) : List Write :=
  match relRow bands ch sum with
  | none => [.tgtw ch 0#16]
  | some r => [.tgtw ch (narrow (r.value sum)), .ledtrig ch]

/-- map_rel(sum) (R146). -/
def mapRel (cfg : Config) (sum : Nat) : List Write :=
  .wdclr :: (relWrites cfg.relBands .ch1 sum ++ relWrites cfg.relBands .ch2 sum)

/-- s1(prim), the sign of channel 1 (R150). -/
def Prim.s1 : Prim → Sign
  | .ff => .plus
  | .bb => .minus
  | .fb => .plus
  | .bf => .minus

/-- s2(prim), the sign of channel 2 (R150). -/
def Prim.s2 : Prim → Sign
  | .ff => .plus
  | .bb => .minus
  | .fb => .minus
  | .bf => .plus

/-- d, the distance from the centre: 4000 div w is taken first, then multiplied (R151, R152). -/
def DiffBand.distance (r : DiffBand) (sum : Nat) : Nat :=
  (r.hi.toNat - sum) * (diffSpan / (r.hi.toNat - r.lo.toNat))

/-- SERVO_CENTER + s·d (R151). -/
def diffValue (sg : Sign) (d : Nat) : Word := narrow (servoCenter.toNat + sg.toInt * d)

/-- map_diff(sum) (R151, R153). -/
def mapDiff (cfg : Config) (sum : Nat) : List Write :=
  match cfg.diffBands.find? fun r => r.holds sum with
  | none => []
  | some r =>
    [.wdclr, .tgtw .ch1 (diffValue r.prim.s1 (r.distance sum)), .tgtw .ch2 (diffValue r.prim.s2 (r.distance sum))]

/-- The band edge E_ch of the Absolute bands (R155). -/
def absEdge (cfg : Config) : Channel → Int
  | .ch1 => cfg.per.per1000.toNat
  | .ch2 => cfg.per.per1000.toNat + cfg.abs2Sign.toInt * abs2OffsetMag

/-- `sum` lies in the Absolute band of a channel, (E − 250, E) (R155). -/
def absHolds (cfg : Config) (ch : Channel) (sum : Nat) : Bool :=
  inBand (absEdge cfg ch - absWidth) (absEdge cfg ch) sum

/-- val(E, sum) (R156). -/
def absValue (cfg : Config) (ch : Channel) (sum : Nat) : Int :=
  absBase + (absEdge cfg ch - sum) * (absSpan / absWidth : Nat)

/-- |v − TGT[ch]| > ABS_HYST (R157). -/
def beyondHysteresis (v : Int) (old : Word) : Bool := decide (absHyst < (v - old.toNat).natAbs)

/-- The writes of one channel in Absolute mode (R158). -/
def absWrites (cfg : Config) (tgt : PerChannel Word) (ch : Channel) (sum : Nat) : List Write :=
  if absHolds cfg ch sum && beyondHysteresis (absValue cfg ch sum) (tgt.get ch) then
    [.tgtw ch (narrow (absValue cfg ch sum)), .ledtrig ch]
  else []

/-- WDCLR goes first when there is anything to write (R141, R158). -/
def clearFirst (ws : List Write) : List Write :=
  match ws with
  | [] => []
  | w :: rest => .wdclr :: w :: rest

/-- map_abs(sum) (R158). -/
def mapAbs (cfg : Config) (tgt : PerChannel Word) (sum : Nat) : List Write :=
  clearFirst (absWrites cfg tgt .ch1 sum ++ absWrites cfg tgt .ch2 sum)

/-- The write list of the operating mode (R91, R140). -/
def writeList (cfg : Config) (mode : OpMode) (tgt : PerChannel Word) (sum : Nat) : List Write :=
  match mode with
  | .absolute => mapAbs cfg tgt sum
  | .relative => mapRel cfg sum
  | .differential => mapDiff cfg sum

namespace Machine

/-- The averaged period that INTERPRET maps: the sum of OUT (R140). Of an Invalid OUT R140 says nothing, and the period is
a free value (log entry 6). -/
def State.period (s : State) : Word :=
  match s.out with
  | .valid sum => sum
  | .invalid => Config.freePeriod s.freeIndex

/-- The state after that read: the index of free values moves on when one was used. -/
def State.afterPeriod (s : State) : State :=
  match s.out with
  | .valid _ => s
  | .invalid => s.useFree

/-- What INTERPRET does with its write list: all of it in one step when ATOMIC_COMMIT, else into PEND (R140). -/
def deliver (ws : List Write) (s : State) : State :=
  if s.cfg.atomicCommit then (applyAll ws s).goto .cycStart
  else if ws.isEmpty then s.goto .cycStart
  else (s.setPend ws).goto .commit

/-- INTERPRET (R140). -/
def execInterpret (s : State) : Host.Outcome State Fault Refusal :=
  .next (deliver (writeList s.cfg s.mode s.tgt s.period.toNat) s.afterPeriod)

/-- The phase after a COMMIT step that leaves `rest` pending (R142). -/
def commitPhase (rest : List Write) : Phase := if rest.isEmpty then .cycStart else .commit

/-- One COMMIT step (R142). Of an empty PEND R142 says nothing: the write is a free value (log entry 7). -/
def commitOnce (s : State) : State :=
  match s.pend with
  | w :: rest => ((applyWrite w s).setPend rest).goto (commitPhase rest)
  | [] => ((applyWrite (Config.freeWrite s.freeIndex) s.useFree).setPend []).goto (commitPhase [])

/-- COMMIT (R142). -/
def execCommit (s : State) : Host.Outcome State Fault Refusal := .next (commitOnce s)

end Machine

end Sys2Proof
end

