-- ==== Sys2Proof/Machine/Ramp.lean ====
section
/-! DEFINITION. The PWM ramp generator: the five command classes and the rollover handler (R180 to R196). -/

namespace Sys2Proof.Machine

/-- INC: min(c + v, SERVO_MAX), the sum exact (R184). -/
def incResult (cfg : Config) (v c : Word) : Word := narrow (min (c.toNat + v.toNat) cfg.servoMax.toNat : Nat)

/-- DEC: max(c − (v − SERVO_RATE), SERVO_MIN), the difference exact (R185). -/
def decResult (cfg : Config) (v c : Word) : Word :=
  narrow (max ((c.toNat : Int) - ((v.toNat : Int) - cfg.servoRate.toNat)) cfg.servoMin.toNat)

/-- ABS (R183): the compare value takes the command word, with no clamp. -/
def absEffect (ch : Channel) (v : Word) (s : State) : State := s.setCcr ch v

/-- INC (R184). -/
def incEffect (ch : Channel) (v : Word) (s : State) : State := s.setCcr ch (incResult s.cfg v (s.ccr.get ch))

/-- DEC (R185). -/
def decEffect (ch : Channel) (v : Word) (s : State) : State := s.setCcr ch (decResult s.cfg v (s.ccr.get ch))

/-- STOP (R186): the compare value holds. -/
def stopEffect (ch : Channel) (s : State) : State := s.setCcr ch (s.ccr.get ch)

/-- RSVD (R187): the compare value holds. -/
def rsvdEffect (ch : Channel) (s : State) : State := s.setCcr ch (s.ccr.get ch)

/-- The handler's update of CCR[ch] under the command word ABS v (R183). -/
def execAbs (ch : Channel) (v : Word) (s : State) : Host.Outcome State Fault Refusal := .next (absEffect ch v s)

/-- The handler's update of CCR[ch] under a reserved command word (R187). -/
def execRsvd (ch : Channel) (s : State) : Host.Outcome State Fault Refusal := .next (rsvdEffect ch s)

/-- The handler's update of CCR[ch] under the command word DEC 32 + m (R185). -/
def execDec (ch : Channel) (m : BitVec 5) (s : State) : Host.Outcome State Fault Refusal :=
  .next (decEffect ch (decWord m) s)

/-- The handler's update of CCR[ch] under the command word STOP (R186). -/
def execStop (ch : Channel) (s : State) : Host.Outcome State Fault Refusal := .next (stopEffect ch s)

/-- The handler's update of CCR[ch] under the command word INC m (R184). -/
def execInc (ch : Channel) (m : BitVec 5) (s : State) : Host.Outcome State Fault Refusal :=
  .next (incEffect ch (incWord m) s)

/-- chan_update of the channel `ch` under the command word in TGT[ch] (R180). -/
def channelUpdate (ch : Channel) (s : State) : State :=
  match classify (s.tgt.get ch) with
  | .abs => absEffect ch (s.tgt.get ch) s
  | .inc => incEffect ch (s.tgt.get ch) s
  | .dec => decEffect ch (s.tgt.get ch) s
  | .stop => stopEffect ch s
  | .rsvd => rsvdEffect ch s

/-- The watchdog recenter: both targets and both compare values at SERVO_CENTER (R182). -/
def State.recenter (s : State) : State :=
  (((s.setTgt .ch1 servoCenter).setCcr .ch1 servoCenter).setTgt .ch2 servoCenter).setCcr .ch2 servoCenter

/-- The recenter, or the update of channel 1 and then of channel 2 (R180, R194). -/
def moveChannels (s : State) : State :=
  if s.mustRecenter then s.recenter else channelUpdate .ch2 (channelUpdate .ch1 s)

/-- WD <- min(WD + 1, SERVO_TIMEOUT) (R188). -/
def State.watchdogTick (s : State) : State :=
  s.setWd (narrow (min (s.wd.toNat + 1) s.cfg.servoTimeout.toNat : Nat))

/-- The rollover handler as one atomic step, in the order of R180. -/
def rolloverHandler (s : State) : State :=
  ((((moveChannels s.enterRollover).watchdogTick).ledTick .ch1).ledTick .ch2).returnFromRollover

/-- ROLLOVER (R180). -/
def execRollover (s : State) : Host.Outcome State Fault Refusal := .next (rolloverHandler s)

end Sys2Proof.Machine
end

