-- ==== Sys2Proof/Machine/Events.lean ====
section
/-! DEFINITION. The event kinds TICK, EDGE and RESET, and the two encodings the spec makes illegal (R85, R89, R214, R240). -/

namespace Sys2Proof.Machine

/-- A reserved phase code, 0b110 or 0b111 (R84, R89(b)). -/
def execPhaseReserved (_ : State) : Host.Outcome State Fault Refusal := .refused .reservedPhase

/-- TICK (R85): one foreground step, the operation of the current PHASE. At a reserved PHASE code the TICK is what is
refused (R84, R211); that EDGE, ROLLOVER and RESET are taken there is a DESIGN CHOICE (log entry 17). -/
def execTick (s : State) : Host.Outcome State Fault Refusal :=
  match phaseOf s.phase with
  | some .cycStart => execCycStart s
  | some .waitEnter => execWaitEnter s
  | some .waitPoll => execWaitPoll s
  | some .validate => execValidate s
  | some .interpret => execInterpret s
  | some .commit => execCommit s
  | none => execPhaseReserved s

/-- EDGE (R214): EDGEF <- 1. -/
def execEdge (s : State) : Host.Outcome State Fault Refusal := .next (s.setEdgef true)

/-- RESET with pins P (R240). -/
def execReset (p : BitVec 2) (s : State) : Host.Outcome State Fault Refusal :=
  match s.cfg.modeMap.lookup p with
  | none => .refused .modePinsUnmapped
  | some m => .next (s.resetRegs m)

/-- A malformed event word (R85, R89(c)). -/
def execEventMalformed (_ : State) : Host.Outcome State Fault Refusal := .refused .malformedEvent

end Sys2Proof.Machine
end

