-- ==== Sys2Proof/Machine/Dispatch.lean ====
section
/-! DEFINITION. The dispatch of an operation to its meaning, one arm per row of spec/opcode_table.json. -/

namespace Sys2Proof.Machine

def exec (i : Instr) (s : State) : Host.Outcome State Fault Refusal :=
  match i with
  | .abs ch v => Sys2Proof.Machine.execAbs ch v s
  | .rsvd ch _ => Sys2Proof.Machine.execRsvd ch s
  | .dec ch m => Sys2Proof.Machine.execDec ch m s
  | .stop ch => Sys2Proof.Machine.execStop ch s
  | .inc ch m => Sys2Proof.Machine.execInc ch m s
  | .cycStart => Sys2Proof.Machine.execCycStart s
  | .waitEnter => Sys2Proof.Machine.execWaitEnter s
  | .waitPoll => Sys2Proof.Machine.execWaitPoll s
  | .validate => Sys2Proof.Machine.execValidate s
  | .interpret => Sys2Proof.Machine.execInterpret s
  | .commit => Sys2Proof.Machine.execCommit s
  | .phaseReserved _ => Sys2Proof.Machine.execPhaseReserved s
  | .tick => Sys2Proof.Machine.execTick s
  | .edge => Sys2Proof.Machine.execEdge s
  | .rollover => Sys2Proof.Machine.execRollover s
  | .reset p => Sys2Proof.Machine.execReset p s
  | .eventMalformed _ => Sys2Proof.Machine.execEventMalformed s

end Sys2Proof.Machine
end

