-- ==== Sys2Proof/Machine/Fetch.lean ====
section
/-! DEFINITION. Taking the next event word (R85, R215), the two refusals that belong to a run and not to an operation (R211), and placing a word where the next step takes it. -/

namespace Sys2Proof.Machine

/-- The next event word: the first of the listed ones, else the environment's own, a free value (log entry 3). -/
def State.nextEvent (s : State) : BitVec 4 :=
  match s.events with
  | e :: _ => e
  | [] => Config.freeEvent s.freeIndex

/-- The state with that word taken. -/
def State.afterEvent (s : State) : State :=
  match s.events with
  | _ :: rest => s.setEvents rest
  | [] => s.useFree

/-- An event word whose kind is RESET (R85). -/
def isResetWord (e : BitVec 4) : Bool := decide (e.extractLsb' 0 2 = 3#2)

/-- What taking an event word gives: an operation to run and the state to run it on, or a refusal. -/
inductive Fetched where
  | run (i : Instr) (s : State)
  | stop (r : Refusal)

/-- One fetch: BadConfig when the configuration fails its checks (R12; log entry 18), NoReset when the run's first event is
not a RESET, else the operation of the next event word (R85, R211). The order of the two refusals is a DESIGN CHOICE (log entry 14). -/
def fetch (s : State) : Fetched :=
  if s.cfg.ok = false then .stop .badConfig
  else if s.started = false ∧ isResetWord s.nextEvent = false then .stop .noReset
  else .run (decodeEvent s.nextEvent) s.afterEvent

/-- An encoded word placed so that the very next step runs its operation: an event word as the next event; a phase code in
PHASE with a TICK next; a command word in the TGT of its channel with a ROLLOVER next. Log entry 4. -/
def State.place (s : State) : CodeWord → State
  | .command ch w => { s with tgt := s.tgt.set ch w, events := rolloverWord :: s.events, started := true }
  | .phase c => { s with phase := c, events := tickWord :: s.events, started := true }
  | .event e => { s with events := e :: s.events, started := true }

end Sys2Proof.Machine
end

