-- ==== Sys2Proof/Machine/Step.lean ====
section
/-! DEFINITION. One step: take the next event word and run its operation (R7, R67, R85). -/

namespace Sys2Proof.Machine

/-- Running what a fetch gave: the refusal, or the operation. -/
def runFetched (f : Fetched) : Host.Outcome State Fault Refusal :=
  match f with
  | .stop r => .refused r
  | .run i t => exec i t

/-- One step of the block: one event of the run's total order (R67, R85). -/
def step (s : State) : Host.Outcome State Fault Refusal := runFetched (fetch s)

/-- The state with the bits `w` of a table row placed where the next step takes its operation. -/
def State.withFetchWord (s : State) (nbits w : Nat) : State :=
  match tableCode nbits w with
  | some c => s.place c
  | none => s

end Sys2Proof.Machine
end

