-- ==== Sys2Proof/Machine/Programs.lean ====
section
/-! DEFINITION. Event programs (R92): their lines, the event words each line expands to, their text, and running one. -/

namespace Sys2Proof.Machine

/-- One line of an event program: an event or a pseudo-event (R92). -/
inductive Line where
  | reset (p : BitVec 2)
  | tick
  | edge
  | rollover
  | ticks (n : Nat)
  | rollovers (n : Nat)
  | cycle (c : Counters)

/-- `n` TICK words (R92). -/
def ticksWords (n : Nat) : List (BitVec 4) := List.replicate n tickWord

/-- The group of one wait that sees `n` counting polls: WAIT_ENTER, `n` polls, an edge, the poll that sees it (R92). -/
def waitWords (n : Nat) : List (BitVec 4) := tickWord :: (ticksWords n ++ [edgeWord, tickWord])

/-- The opening groups of the settling waits (R92). -/
def settleWords : Nat → List (BitVec 4)
  | 0 => []
  | n + 1 => waitWords 0 ++ settleWords n

/-- The part of CYCLE up to the end of the last wait (R92). -/
def captureWords (settle : Nat) (c : Counters) : List (BitVec 4) :=
  tickWord :: (settleWords settle ++ (waitWords c.c1.toNat ++ (waitWords c.c2.toNat ++ (waitWords c.c3.toNat
    ++ (waitWords c.c4.toNat ++ waitWords c.c5.toNat)))))

/-- The number of TICKs that INTERPRET and its COMMIT steps take: none after an Invalid cycle; one, and one more for each
pending write when ATOMIC_COMMIT = false (R92). -/
def interpretTicks (s : State) : DecodeOutcome → Nat
  | .invalid => 0
  | .valid sum =>
    if s.cfg.atomicCommit then 1 else 1 + (writeList s.cfg s.mode s.tgt sum.toNat).length

/-- The expansion of `CYCLE a b c d e` at a state at the start of a cycle (R92). -/
def cycleWords (s : State) (c : Counters) : List (BitVec 4) :=
  captureWords s.cfg.settleWaits c ++ ticksWords (1 + interpretTicks s (consensus c))

/-- The event words of a line, expanded at the state it starts from (R92). -/
def Line.words (s : State) : Line → List (BitVec 4)
  | .reset p => [resetWord p]
  | .tick => [tickWord]
  | .edge => [edgeWord]
  | .rollover => [rolloverWord]
  | .ticks n => ticksWords n
  | .rollovers n => List.replicate n rolloverWord
  | .cycle c => cycleWords s c

/-- The text of a decimal number of a line. -/
def Line.num (n : Nat) : String := " " ++ toString n

/-- The text of a line (R92). -/
def Line.text : Line → String
  | .reset p => "RESET 0b" ++ (if p.getLsbD 1 then "1" else "0") ++ (if p.getLsbD 0 then "1" else "0")
  | .tick => "TICK"
  | .edge => "EDGE"
  | .rollover => "ROLLOVER"
  | .ticks n => "TICKS" ++ Line.num n
  | .rollovers n => "ROLLOVERS" ++ Line.num n
  | .cycle c =>
    "CYCLE" ++ Line.num c.c1.toNat ++ Line.num c.c2.toNat ++ Line.num c.c3.toNat ++ Line.num c.c4.toNat
      ++ Line.num c.c5.toNat

/-- Going on from an outcome: with the next state, or stopping where it stopped. -/
def andThen (o : Host.Outcome State Fault Refusal) (f : State → Host.Outcome State Fault Refusal) :
    Host.Outcome State Fault Refusal :=
  match o with
  | .next t => f t
  | .fault r => .fault r
  | .refused r => .refused r

/-- `n` steps, stopping at the first refusal. -/
def runSteps (n : Nat) (s : State) : Host.Outcome State Fault Refusal :=
  match n with
  | 0 => .next s
  | k + 1 => andThen (step s) (runSteps k)

/-- A run over a list of event words, placed before those the state lists (R85, R252). -/
def runWords (ws : List (BitVec 4)) (s : State) : Host.Outcome State Fault Refusal :=
  runSteps ws.length (s.setEvents (ws ++ s.events))

/-- A run of an event program (R92). -/
def runProgram (ls : List Line) (s : State) : Host.Outcome State Fault Refusal :=
  match ls with
  | [] => .next s
  | l :: rest => andThen (runWords (l.words s) s) (runProgram rest)

end Sys2Proof.Machine
end

