-- ==== Sys2Proof/WellFormed.lean ====
section
/-! DEFINITION. Well-formed operations: the value ranges that R80 and R85 give each class and the malformed event words. The checks of a configuration (R12) are Config.ok. -/

namespace Sys2Proof

/-- The operands lie in the ranges the encoding tables give the operation (R80, R84, R85). -/
def Instr.wf : Instr → Bool
  | .abs _ v => decide (2000 < v.toNat)
  | .rsvd _ v => decide (64 ≤ v.toNat) && decide (v.toNat ≤ 2000)
  | .dec _ _ => true
  | .stop _ => true
  | .inc _ m => decide (m ≠ 0#5)
  | .cycStart => true
  | .waitEnter => true
  | .waitPoll => true
  | .validate => true
  | .interpret => true
  | .commit => true
  | .phaseReserved _ => true
  | .tick => true
  | .edge => true
  | .rollover => true
  | .reset _ => true
  | .eventMalformed e => decide (e.extractLsb' 2 2 ≠ 0#2) && decide (e.extractLsb' 0 2 ≠ 3#2)

end Sys2Proof
end

