-- ==== Sys2Proof/Safety.lean ====
section
/-! DEFINITION. The terms that statements use: the observable outputs (R39), the invariant of the state (R22, R29, R33, R37, R83), the silent outcomes (R210) and the rollover gap (R251). -/

namespace Sys2Proof.Machine

/-- The observable outputs CCR[1..2] and LED[1..2] (R39). -/
structure Outputs where
  ccr : PerChannel Word
  led : PerChannel Bool
deriving DecidableEq, Repr

/-- What can be seen of a state from outside (R39). -/
def State.outputs (s : State) : Outputs := { ccr := s.ccr, led := s.led }

/-- A silent outcome of R210. No register holds one and no operation reads one. -/
inductive SilentOutcome where
  | decodeInvalid
  | cycleAbort
  | outOfBandHold
  | outOfBandStop
  | hysteresisReject
  | watchdogRecenter
deriving DecidableEq, Repr

/-- DECODE_INVALID at a VALIDATE (R210). -/
def validateOutcomes (s : State) : List SilentOutcome :=
  if consensus s.c = .invalid then [.decodeInvalid] else []

/-- CYCLE_ABORT at a WAIT_POLL (R210). -/
def pollOutcomes (s : State) : List SilentOutcome := if s.intr then [.cycleAbort] else []

/-- HYSTERESIS_REJECT of one channel in Absolute mode (R157, R210). -/
def rejectOutcome (s : State) (ch : Channel) : List SilentOutcome :=
  if absHolds s.cfg ch s.period.toNat && !beyondHysteresis (absValue s.cfg ch s.period.toNat) (s.tgt.get ch) then
    [.hysteresisReject]
  else []

/-- OUT_OF_BAND_STOP of one channel in Relative mode (R148, R210). -/
def stopOutcome (s : State) (ch : Channel) : List SilentOutcome :=
  if relRow s.cfg.relBands ch s.period.toNat = none then [.outOfBandStop] else []

/-- OUT_OF_BAND_HOLD: an empty write list in Absolute or Differential mode (R153, R158, R210). -/
def holdOutcome (s : State) : List SilentOutcome :=
  if writeList s.cfg s.mode s.tgt s.period.toNat = [] then [.outOfBandHold] else []

/-- The silent outcomes of an INTERPRET (R210). -/
def interpretOutcomes (s : State) : List SilentOutcome :=
  match s.mode with
  | .absolute => holdOutcome s ++ rejectOutcome s .ch1 ++ rejectOutcome s .ch2
  | .relative => stopOutcome s .ch1 ++ stopOutcome s .ch2
  | .differential => holdOutcome s

/-- WATCHDOG_RECENTER at a ROLLOVER (R182, R210). -/
def rolloverOutcomes (s : State) : List SilentOutcome := if s.mustRecenter then [.watchdogRecenter] else []

/-- The silent outcomes of the operation that a TICK runs (R85, R210). -/
def tickOutcomes (s : State) : List SilentOutcome :=
  match phaseOf s.phase with
  | some .cycStart => []
  | some .waitEnter => []
  | some .waitPoll => pollOutcomes s
  | some .validate => validateOutcomes s
  | some .interpret => interpretOutcomes s
  | some .commit => []
  | none => []

/-- The silent outcomes of an operation at a state (R210). -/
def silentOutcomes (i : Instr) (s : State) : List SilentOutcome :=
  match i with
  | .abs _ _ => []
  | .rsvd _ _ => []
  | .dec _ _ => []
  | .stop _ => []
  | .inc _ _ => []
  | .cycStart => []
  | .waitEnter => []
  | .waitPoll => pollOutcomes s
  | .validate => validateOutcomes s
  | .interpret => interpretOutcomes s
  | .commit => []
  | .phaseReserved _ => []
  | .tick => tickOutcomes s
  | .edge => []
  | .rollover => rolloverOutcomes s
  | .reset _ => []
  | .eventMalformed _ => []

/-- ROLLOVER_GAP_MIN: after each rollover of a list of event words at least `gap` foreground steps come before the next,
`owed` of them still to come (R251, decision D30). It is a premise for liveness claims, not a rule of the step. -/
def rolloverGapAtLeast (gap : Nat) : Nat → List (BitVec 4) → Bool
  | _, [] => true
  | owed, e :: es =>
    if e = rolloverWord then decide (owed = 0) && rolloverGapAtLeast gap gap es
    else if e = tickWord then rolloverGapAtLeast gap (owed - 1) es
    else rolloverGapAtLeast gap owed es

/-- R37(b), R29: WD ≤ SERVO_TIMEOUT. -/
abbrev State.wdBounded (s : State) : Prop := s.wd.toNat ≤ s.cfg.servoTimeout.toNat

/-- R37(d): LT[ch] ≤ LED_TIMEOUT. -/
abbrev State.ltBounded (s : State) : Prop := s.lt.ch1.toNat ≤ 15 ∧ s.lt.ch2.toNat ≤ 15

/-- R21, R84, R211: PHASE holds a legal code, 0b000 to 0b101. -/
abbrev State.phaseLegal (s : State) : Prop := s.phase.toNat < 6

/-- R22: WIX < N_WAITS_TOTAL = SETTLE_WAITS + 5. -/
abbrev State.wixBounded (s : State) : Prop := s.wix < s.cfg.settleWaits + 5

/-- R33: PEND is empty outside phase COMMIT, and COMMIT is used only when ATOMIC_COMMIT = false (R142). -/
abbrev State.pendShaped (s : State) : Prop :=
  (s.phase = 0b101#3 ↔ s.pend ≠ []) ∧ (s.pend ≠ [] → s.cfg.atomicCommit = false)

/-- R140: INTERPRET and COMMIT run only after VALIDATE gave Valid. -/
abbrev State.outReady (s : State) : Prop := s.phase = 0b100#3 ∨ s.phase = 0b101#3 → s.out ≠ .invalid

/-- R37(e): within a cycle C[k] is 0 until its own measuring wait, number SETTLE_WAITS + k − 1, begins. -/
abbrev State.countersAhead (s : State) : Prop :=
  ∀ k ∈ [1, 2, 3, 4, 5],
    (s.phase = 0b001#3 → s.wix + 1 ≤ s.cfg.settleWaits + k → s.c.get k = 0#16) ∧
    (s.phase = 0b010#3 → s.wix + 1 < s.cfg.settleWaits + k → s.c.get k = 0#16)

/-- The write carries no reserved command word (R83). -/
def Write.legal : Write → Bool
  | .tgtw _ v => decide (classify v ≠ .rsvd)
  | .ledtrig _ => true
  | .wdclr => true

/-- R83: no ServoTarget, and no pending write, holds a reserved command word. -/
abbrev State.targetsLegal (s : State) : Prop :=
  classify s.tgt.ch1 ≠ .rsvd ∧ classify s.tgt.ch2 ≠ .rsvd ∧ ∀ w ∈ s.pend, Write.legal w = true

/-- The invariant of every state that a run reaches (R22, R29, R33, R37, R83, R140, R211). -/
abbrev State.Inv (s : State) : Prop :=
  s.started = true ∧ s.wdBounded ∧ s.ltBounded ∧ s.phaseLegal ∧ s.wixBounded ∧ s.pendShaped ∧ s.outReady
    ∧ s.countersAhead ∧ s.targetsLegal

/-- The triplet test of R109, written over the integers for statements. -/
def TripletAccepted (a b c : Word) : Prop :=
  ((a.toNat : Int) - b.toNat).natAbs < 5 ∧ ((((a.toNat + b.toNat) / 2 : Nat) : Int) - c.toNat).natAbs < 5

/-- The outcome is Valid with the truncated average of the three (R109). -/
def AveragesTo (o : DecodeOutcome) (a b c : Word) : Prop :=
  ∃ sum : Word, o = .valid sum ∧ sum.toNat = (a.toNat + b.toNat + c.toNat) / 3

/-- A period lies in the open band (lo, hi) of a row (R14). -/
def InRow (lo hi : Word) (sum : Nat) : Prop := lo.toNat < sum ∧ sum < hi.toNat

/-- The band edge E_ch of the Absolute mode (R155). -/
def bandEdge (cfg : Config) (ch : Channel) : Int :=
  match ch with
  | .ch1 => cfg.per.per1000.toNat
  | .ch2 =>
    match cfg.abs2Sign with
    | .plus => cfg.per.per1000.toNat + 350
    | .minus => cfg.per.per1000.toNat - 350

end Sys2Proof.Machine
end

