-- ==== Sys2Proof/Certificates/Slice0/Obligations.lean ====
section
/-! DEFINITION. The statements for the provers, each a Prop. The rules they formalise are named in OBLIGATIONS.json and in the docstrings. -/

open Sys2Proof Sys2Proof.Machine

/-- A few words written out from the tables of R80, R84 and R85 decode to the operation they stand for. -/
def Obligations.SampleWordsDecode : Prop :=
  decodeCommand .ch1 0b0000011111010001#16 = .abs .ch1 2001#16 ∧
  decodeCommand .ch2 0b0000011111010000#16 = .rsvd .ch2 2000#16 ∧
  decodeCommand .ch1 0b0000000000111111#16 = .dec .ch1 31#5 ∧
  decodeCommand .ch1 0b0000000000011111#16 = .inc .ch1 31#5 ∧
  decodeCommand .ch2 0b0000000000000000#16 = .stop .ch2 ∧
  decodePhase 0b010#3 = .waitPoll ∧ decodePhase 0b101#3 = .commit ∧ decodePhase 0b111#3 = .phaseReserved 1#1 ∧
  decodeEvent 0b0010#4 = .rollover ∧ decodeEvent 0b1011#4 = .reset 0b10#2 ∧ decodeEvent 0b0100#4 = .eventMalformed 0b0100#4

/-- Decoding the encoding of a well-formed operation gives it back, every operand at every value (R80, R84, R85). -/
def Obligations.DecodeInvertsEncode : Prop :=
  ∀ i : Instr, i.wf = true → decode (encode i) = i

/-- Every word decodes to a well-formed operation, whose encoding is that word (R80, R84, R85). -/
def Obligations.EncodeInvertsDecode : Prop :=
  ∀ w : CodeWord, (decode w).wf = true ∧ encode (decode w) = w

/-- R82: the classifier's tests in their order, and the range of values of each class. -/
def Obligations.ClassifierFollowsValueRanges : Prop :=
  ∀ v : Word,
    classify v =
      (if 2000 < v.toNat then .abs
       else if v.toNat / 64 ≠ 0 then .rsvd
       else if v.toNat / 32 % 2 = 1 then .dec
       else if v.toNat % 32 = 0 then .stop
       else .inc) ∧
    (classify v = .abs ↔ 2001 ≤ v.toNat) ∧
    (classify v = .rsvd ↔ 64 ≤ v.toNat ∧ v.toNat ≤ 2000) ∧
    (classify v = .dec ↔ 32 ≤ v.toNat ∧ v.toNat ≤ 63) ∧
    (classify v = .inc ↔ 1 ≤ v.toNat ∧ v.toNat ≤ 31) ∧
    (classify v = .stop ↔ v.toNat = 0)

/-- The fields of a rate-regime word (R81): a word of 63 or less is the word of its magnitude field, with bit 5 the
direction, and its value is that magnitude, plus 32 for a decrease. -/
def Obligations.RateWordsCarryTheirMagnitude : Prop :=
  ∀ v : Word, v.toNat ≤ 63 →
    (v.getLsbD 5 = false → v = incWord (magField v) ∧ v.toNat = (magField v).toNat) ∧
    (v.getLsbD 5 = true → v = decWord (magField v) ∧ v.toNat = 32 + (magField v).toNat)

/-- R87: OUT as 17 bits, bit 16 = valid, bits 15:0 = sum. -/
def Obligations.OutcomeBitsCarryValidAndSum : Prop :=
  DecodeOutcome.invalid.toBits.toNat = 0 ∧
  (∀ v : Word, (DecodeOutcome.valid v).toBits.toNat = 65536 + v.toNat) ∧
  ∀ o : DecodeOutcome, DecodeOutcome.ofBits o.toBits = o

/-- A step runs the operation that the next event word decodes to, and takes that word off the list; when no word is listed,
the environment's own word (a free value). Before the first RESET only a RESET word is run. (R67, R85; log entries 3, 5.) -/
def Obligations.StepRunsTheNextEvent : Prop :=
  (∀ (s : State) (e : BitVec 4) (es : List (BitVec 4)) (i : Instr),
    s.cfg.ok = true → s.started = true → s.events = e :: es → decodeEvent e = i →
      step s = exec i { s with events := es }) ∧
  (∀ (s : State) (i : Instr), s.cfg.ok = true → s.started = true → s.events = [] →
      decodeEvent (Config.freeEvent s.freeIndex) = i → step s = exec i { s with freeIndex := s.freeIndex + 1 }) ∧
  (∀ (s : State) (p : BitVec 2) (es : List (BitVec 4)), s.cfg.ok = true → s.started = false →
      s.events = (p ++ 0b11#2) :: es → step s = exec (.reset p) { s with events := es })

/-- R211: the five refusals of a model, each under its own name, and no step is refused for another reason. That BadConfig
comes before NoReset, and both before the event word is decoded, is the model's choice (log entry 14); so are that a
reserved PHASE refuses a TICK only (log entry 17) and that BadConfig covers the shape of the tables (log entry 18). -/
def Obligations.RefusalsAreTheFiveNamedOnes : Prop :=
  (∀ (s : State) (p : BitVec 2), s.cfg.modeMap.lookup p = none → exec (.reset p) s = .refused .modePinsUnmapped) ∧
  (∀ (s : State) (x : BitVec 1), exec (.phaseReserved x) s = .refused .reservedPhase) ∧
  (∀ s : State, s.phase = 0b110#3 ∨ s.phase = 0b111#3 → exec .tick s = .refused .reservedPhase) ∧
  (∀ (s : State) (e : BitVec 4), exec (.eventMalformed e) s = .refused .malformedEvent) ∧
  (∀ (s : State) (e : BitVec 4) (es : List (BitVec 4)), s.cfg.ok = true → s.started = true → s.events = e :: es →
    e.toNat % 4 ≠ 3 → e.toNat / 4 ≠ 0 → step s = .refused .malformedEvent) ∧
  (∀ s : State, s.cfg.ok = false → step s = .refused .badConfig) ∧
  (∀ (s : State) (e : BitVec 4) (es : List (BitVec 4)), s.cfg.ok = true → s.started = false → s.events = e :: es →
    e.toNat % 4 ≠ 3 → step s = .refused .noReset) ∧
  (∀ (s : State) (r : Refusal), step s = .refused r →
    r = .modePinsUnmapped ∨ r = .reservedPhase ∨ r = .malformedEvent ∨ r = .badConfig ∨ r = .noReset)

/-- R12, R145, R150: what the configuration checks mean, each of (a) to (g), and the shape of the two tables. The open
intervals of (c) and the check of the shape are the model's reading (log entries 15, 18). -/
def Obligations.ConfigChecksMeanTheirClauses : Prop :=
  ∀ cfg : Config, cfg.ok = true ↔
    (cfg.per.per10000.toNat < cfg.per.per9000.toNat ∧ cfg.per.per9000.toNat < cfg.per.per8000.toNat ∧
      cfg.per.per8000.toNat < cfg.per.per7000.toNat ∧ cfg.per.per7000.toNat < cfg.per.per6000.toNat ∧
      cfg.per.per6000.toNat < cfg.per.per5000.toNat ∧ cfg.per.per5000.toNat < cfg.per.per4000.toNat ∧
      cfg.per.per4000.toNat < cfg.per.per3000.toNat ∧ cfg.per.per3000.toNat < cfg.per.per2000.toNat ∧
      cfg.per.per2000.toNat < cfg.per.per1000.toNat) ∧
    (∀ r ∈ cfg.relBands, r.lo.toNat < r.hi.toNat) ∧ (∀ r ∈ cfg.diffBands, r.lo.toNat < r.hi.toNat) ∧
    cfg.relBands.Pairwise (fun a b => a.hi.toNat ≤ b.lo.toNat ∨ b.hi.toNat ≤ a.lo.toNat) ∧
    cfg.diffBands.Pairwise (fun a b => a.hi.toNat ≤ b.lo.toNat ∨ b.hi.toNat ≤ a.lo.toNat) ∧
    cfg.servoMin.toNat ≤ cfg.servoMax.toNat ∧ cfg.servoRate.toNat ≤ 32 ∧
    (cfg.settleWaits = 1 ∨ cfg.settleWaits = 2) ∧
    250 ≤ cfg.per.per1000.toNat ∧
    (cfg.abs2Sign = .minus → 600 ≤ cfg.per.per1000.toNat) ∧
    (∀ ch, (cfg.relBands.filter fun r => decide (r.ch = ch)).length = 3) ∧ cfg.diffBands.length = 4

/-- A TICK runs the operation of the current PHASE (R7, R85), and under a legal phase it has a next state. -/
def Obligations.TickRunsTheCurrentPhase : Prop :=
  (∀ s : State, exec .tick s = exec (decodePhase s.phase) s) ∧
  (∀ s : State, s.phase.toNat < 6 →
    ∃ t, exec .tick s = .next t ∧ exec (decodePhase s.phase) s = .next t ∧ t.cfg = s.cfg ∧ t.mode = s.mode ∧
      t.ccr = s.ccr ∧ t.events = s.events)

/-- CYC_START (R101). -/
def Obligations.CycStartClearsTheCycle : Prop :=
  ∀ s : State, exec .cycStart s = .next
    { s with
      c := { c1 := 0#16, c2 := 0#16, c3 := 0#16, c4 := 0#16, c5 := 0#16 }
      intr := false
      out := .invalid
      wix := 0
      phase := 0b001#3 }

/-- WAIT_ENTER (R103). -/
def Obligations.WaitEnterClearsTheEdgeFlag : Prop :=
  ∀ s : State, exec .waitEnter s = .next { s with edgef := false, phase := 0b010#3 }

/-- WAIT_POLL (R104), for every WIX that R22 allows: the abort, the edge, the tick that counts, the tick of a settling wait. -/
def Obligations.WaitPollAbortsAdvancesOrCounts : Prop :=
  ∀ s : State, s.wix < s.cfg.settleWaits + 5 →
    (s.intr = true → exec .waitPoll s = .next { s with phase := 0b000#3 }) ∧
    (s.intr = false → s.edgef = true → s.wix + 1 = s.cfg.settleWaits + 5 →
      exec .waitPoll s = .next { s with phase := 0b011#3 }) ∧
    (s.intr = false → s.edgef = true → s.wix + 1 ≠ s.cfg.settleWaits + 5 →
      exec .waitPoll s = .next { s with wix := s.wix + 1, phase := 0b001#3 }) ∧
    (s.intr = false → s.edgef = false → s.wix < s.cfg.settleWaits →
      exec .waitPoll s = .next { s with phase := 0b010#3 }) ∧
    (s.intr = false → s.edgef = false → s.cfg.settleWaits ≤ s.wix →
      ∃ c : Counters, exec .waitPoll s = .next { s with c := c, phase := 0b010#3 } ∧
        (c.get (s.wix - s.cfg.settleWaits + 1)).toNat = ((s.c.get (s.wix - s.cfg.settleWaits + 1)).toNat + 1) % 65536 ∧
        ∀ j, j ≠ s.wix - s.cfg.settleWaits + 1 → c.get j = s.c.get j)

/-- THE MODEL'S CHOICE (log entry 9): at a WIX that R22 rules out, a poll with no edge counts into no register. -/
def Obligations.WaitPollBeyondTheLastWaitCountsNothing : Prop :=
  ∀ s : State, s.cfg.settleWaits + 5 ≤ s.wix →
    (s.intr = true → exec .waitPoll s = .next { s with phase := 0b000#3 }) ∧
    (s.intr = false → s.edgef = true → exec .waitPoll s = .next { s with wix := s.wix + 1, phase := 0b001#3 }) ∧
    (s.intr = false → s.edgef = false → exec .waitPoll s = .next { s with phase := 0b010#3 })

/-- R102, R104, R107: in the measuring wait of C[k], n TICKs that find no edge and no interruption add n to C[k] modulo
2^16 and change nothing else. -/
def Obligations.PollsCountSampleTicks : Prop :=
  ∀ (n k : Nat) (s : State), s.cfg.ok = true → s.started = true → s.phase = 0b010#3 → s.intr = false → s.edgef = false →
    1 ≤ k → k ≤ 5 → s.wix + 1 = s.cfg.settleWaits + k →
      runWords (ticksWords n) s =
        .next { s with c := s.c.set k (BitVec.ofNat 16 ((s.c.get k).toNat + n)) }

/-- VALIDATE (R108), with the filter's outcome. -/
def Obligations.ValidateStoresTheOutcome : Prop :=
  ∀ s : State,
    (consensus s.c = .invalid → exec .validate s = .next { s with out := .invalid, phase := 0b000#3 }) ∧
    (∀ sum, consensus s.c = .valid sum → exec .validate s = .next { s with out := .valid sum, phase := 0b100#3 })

/-- R109, R111, R112: the earliest accepted triplet gives the average; with none accepted the outcome is Invalid. -/
def Obligations.FilterTakesTheEarliestTriplet : Prop :=
  ∀ c : Counters,
    (TripletAccepted c.c1 c.c2 c.c3 → AveragesTo (consensus c) c.c1 c.c2 c.c3) ∧
    (¬ TripletAccepted c.c1 c.c2 c.c3 → TripletAccepted c.c2 c.c3 c.c4 →
      AveragesTo (consensus c) c.c2 c.c3 c.c4) ∧
    (¬ TripletAccepted c.c1 c.c2 c.c3 → ¬ TripletAccepted c.c2 c.c3 c.c4 →
      TripletAccepted c.c3 c.c4 c.c5 → AveragesTo (consensus c) c.c3 c.c4 c.c5) ∧
    (¬ TripletAccepted c.c1 c.c2 c.c3 → ¬ TripletAccepted c.c2 c.c3 c.c4 →
      ¬ TripletAccepted c.c3 c.c4 c.c5 → consensus c = .invalid)

/-- R110: the average needs no truncation, is at most the largest member, and the members of an accepted triplet lie within
9 ticks of each other. -/
def Obligations.AverageFitsAndTripletIsTight : Prop :=
  ∀ a b c : Word,
    (avgTriplet a b c).toNat = (a.toNat + b.toNat + c.toNat) / 3 ∧
    (avgTriplet a b c).toNat ≤ max (max a.toNat b.toNat) c.toNat ∧
    (acceptTriplet a b c = true →
      ((a.toNat : Int) - b.toNat).natAbs ≤ 9 ∧ ((a.toNat : Int) - c.toNat).natAbs ≤ 9 ∧
        ((b.toNat : Int) - c.toNat).natAbs ≤ 9)

/-- INTERPRET (R91, R140) of a Valid period: the mapper of the mode, delivered at once or into PEND. -/
def Obligations.InterpretDeliversTheWriteList : Prop :=
  ∀ (s : State) (sum : Word) (ws : List Write), s.out = .valid sum →
    ws = (match s.mode with
      | .absolute => mapAbs s.cfg s.tgt sum.toNat
      | .relative => mapRel s.cfg sum.toNat
      | .differential => mapDiff s.cfg sum.toNat) →
    (s.cfg.atomicCommit = true → exec .interpret s = .next { applyAll ws s with phase := 0b000#3 }) ∧
    (s.cfg.atomicCommit = false → ws = [] → exec .interpret s = .next { s with phase := 0b000#3 }) ∧
    (s.cfg.atomicCommit = false → ws ≠ [] → exec .interpret s = .next { s with pend := ws, phase := 0b101#3 })

/-- THE MODEL'S CHOICE (log entry 6): INTERPRET of an Invalid OUT does what it does of a Valid one whose sum is a free value. -/
def Obligations.InterpretOfInvalidUsesAFreePeriod : Prop :=
  ∀ s : State, s.out = .invalid →
    ∃ t, exec .interpret { s with out := .valid (Config.freePeriod s.freeIndex), freeIndex := s.freeIndex + 1 } = .next t ∧
      exec .interpret s = .next { t with out := .invalid }

/-- R141: what applying each kind of write does, with its frame, and the order of every write list: empty, or WDCLR first
and then the writes of channel 1 before those of channel 2, with at least one ServoTarget among them. -/
def Obligations.WritesAndTheirOrder : Prop :=
  (∀ (s : State) (ch : Channel) (v : Word),
    (∃ tgt, applyWrite (.tgtw ch v) s = { s with tgt := tgt } ∧ tgt.get ch = v ∧ ∀ o, o ≠ ch → tgt.get o = s.tgt.get o) ∧
    (∃ led lt, applyWrite (.ledtrig ch) s = { s with led := led, lt := lt } ∧ led.get ch = true ∧ (lt.get ch).toNat = 0 ∧
      ∀ o, o ≠ ch → led.get o = s.led.get o ∧ lt.get o = s.lt.get o) ∧
    applyWrite .wdclr s = { s with wd := 0#16 }) ∧
  ∀ (cfg : Config) (mode : OpMode) (tgt : PerChannel Word) (sum : Nat),
    writeList cfg mode tgt sum = [] ∨
    ∃ w1 w2, writeList cfg mode tgt sum = .wdclr :: (w1 ++ w2) ∧
      (∀ w ∈ w1, (∃ v, w = .tgtw .ch1 v) ∨ w = .ledtrig .ch1) ∧
      (∀ w ∈ w2, (∃ v, w = .tgtw .ch2 v) ∨ w = .ledtrig .ch2) ∧
      ∃ ch v, Write.tgtw ch v ∈ w1 ++ w2

/-- COMMIT (R142) of a PEND that holds a write. -/
def Obligations.CommitAppliesTheFirstPendingWrite : Prop :=
  ∀ (s : State) (w : Write) (rest : List Write), s.pend = w :: rest →
    (rest = [] → exec .commit s = .next { applyWrite w s with pend := [], phase := 0b000#3 }) ∧
    (rest ≠ [] → exec .commit s = .next { applyWrite w s with pend := rest, phase := 0b101#3 })

/-- THE MODEL'S CHOICE (log entry 7): COMMIT of an empty PEND applies a free write and ends the commit. -/
def Obligations.CommitOfNothingAppliesAFreeWrite : Prop :=
  ∀ s : State, s.pend = [] →
    exec .commit s = .next
      { applyWrite (Config.freeWrite s.freeIndex) s with
        pend := []
        phase := 0b000#3
        freeIndex := s.freeIndex + 1 }

/-- R69, R140, R142: with ATOMIC_COMMIT = false and no event between its steps, INTERPRET and the COMMIT steps it leaves end
in the state that one INTERPRET with ATOMIC_COMMIT = true gives. -/
def Obligations.StagedCommitEqualsAtomicCommit : Prop :=
  ∀ (s : State) (sum : Word), s.cfg.ok = true → s.started = true → s.phase = 0b100#3 → s.out = .valid sum → s.pend = [] →
    s.cfg.atomicCommit = false →
      ∃ t, exec .interpret { s with cfg := { s.cfg with atomicCommit := true } } = .next t ∧
        runWords (ticksWords (1 + (writeList s.cfg s.mode s.tgt sum.toNat).length)) s = .next { t with cfg := s.cfg }

/-- R146, R147, R148: the writes of each channel in Relative mode. -/
def Obligations.RelativeTargetsFollowTheFirstRow : Prop :=
  ∀ (cfg : Config) (sum : Nat), ∃ w : Channel → List Write,
    mapRel cfg sum = .wdclr :: (w .ch1 ++ w .ch2) ∧
    ∀ ch,
      ((∀ r ∈ cfg.relBands, r.ch = ch → ¬ InRow r.lo r.hi sum) → w ch = [.tgtw ch 0#16]) ∧
      (∀ pre r post, cfg.relBands = pre ++ r :: post → r.ch = ch → InRow r.lo r.hi sum →
        (∀ q ∈ pre, q.ch = ch → ¬ InRow q.lo q.hi sum) →
        ∃ v : Word, w ch = [.tgtw ch v, .ledtrig ch] ∧
          (r.kind = .stopBand → v.toNat = 0) ∧
          (r.kind = .plus → v.toNat = (r.hi.toNat - sum) * 32 / (r.hi.toNat - r.lo.toNat)) ∧
          (r.kind = .minus → v.toNat = 32 + (r.hi.toNat - sum) * 32 / (r.hi.toNat - r.lo.toNat)))

/-- R148: under a configuration that meets R12, no period hits both channels of the Relative table. -/
def Obligations.RelativePeriodHitsAtMostOneChannel : Prop :=
  ∀ (cfg : Config) (sum : Nat) (a b : RelBand), cfg.ok = true → a ∈ cfg.relBands → b ∈ cfg.relBands →
    InRow a.lo a.hi sum → InRow b.lo b.hi sum → a.ch = b.ch

/-- R147: inside a band the magnitude is at most 31, and it grows as the period falls. -/
def Obligations.RateMagnitudeIsBoundedAndFalls : Prop :=
  ∀ (r : RelBand) (sum sum' : Nat), InRow r.lo r.hi sum → InRow r.lo r.hi sum' →
    r.mag sum ≤ 31 ∧ (sum ≤ sum' → r.mag sum' ≤ r.mag sum)

/-- R150, R151, R152: the writes in Differential mode, their value and its range. -/
def Obligations.DifferentialTargetsFollowTheFirstRow : Prop :=
  ∀ (cfg : Config) (sum : Nat),
    ((∀ r ∈ cfg.diffBands, ¬ InRow r.lo r.hi sum) → mapDiff cfg sum = []) ∧
    (∀ pre r post, cfg.diffBands = pre ++ r :: post → InRow r.lo r.hi sum →
      (∀ q ∈ pre, ¬ InRow q.lo q.hi sum) →
      ∃ (v1 v2 : Word) (d : Nat), mapDiff cfg sum = [.wdclr, .tgtw .ch1 v1, .tgtw .ch2 v2] ∧
        d = (r.hi.toNat - sum) * (4000 / (r.hi.toNat - r.lo.toNat)) ∧
        (v1.toNat : Int) = (if r.prim = .ff ∨ r.prim = .fb then 6000 + (d : Int) else 6000 - (d : Int)) ∧
        (v2.toNat : Int) = (if r.prim = .ff ∨ r.prim = .bf then 6000 + (d : Int) else 6000 - (d : Int)) ∧
        2001 ≤ v1.toNat ∧ v1.toNat ≤ 9999 ∧ 2001 ≤ v2.toNat ∧ v2.toNat ≤ 9999)

/-- R153: in Differential mode a period equal to a bound of a row, or in no row, changes no register but PHASE. -/
def Obligations.DifferentialBoundaryChangesNothing : Prop :=
  ∀ (s : State) (sum : Word), s.cfg.ok = true → s.mode = .differential → s.out = .valid sum →
    (∃ r ∈ s.cfg.diffBands, sum = r.lo ∨ sum = r.hi) ∨ (∀ r ∈ s.cfg.diffBands, ¬ InRow r.lo r.hi sum.toNat) →
      exec .interpret s = .next { s with phase := 0b000#3 }

/-- R155, R156, R157, R158: the writes in Absolute mode. A period in the band of a channel commits that channel's value, and
nothing of the other channel, exactly when the value is more than 100 from TGT[ch]; a period in neither band writes nothing. -/
def Obligations.AbsoluteTargetsFollowTheBandEdge : Prop :=
  ∀ (cfg : Config) (tgt : PerChannel Word) (sum : Nat),
    (∀ ch, bandEdge cfg ch - 250 < sum → (sum : Int) < bandEdge cfg ch →
      ∃ v : Word, (v.toNat : Int) = 2000 + (bandEdge cfg ch - sum) * 32 ∧ 2032 ≤ v.toNat ∧ v.toNat ≤ 9968 ∧
        (100 < ((v.toNat : Int) - (tgt.get ch).toNat).natAbs → mapAbs cfg tgt sum = [.wdclr, .tgtw ch v, .ledtrig ch]) ∧
        (((v.toNat : Int) - (tgt.get ch).toNat).natAbs ≤ 100 → mapAbs cfg tgt sum = [])) ∧
    ((∀ ch, ¬ (bandEdge cfg ch - 250 < sum ∧ (sum : Int) < bandEdge cfg ch)) → mapAbs cfg tgt sum = [])

/-- R157, R158: in Absolute mode a commit is not repeated while the period holds. After an INTERPRET the target of a channel
whose band holds the period is within 100 of the value the period calls for; the write list of the same period is then
empty; and INTERPRET run again, whatever WD, LT and LED have become, changes nothing. -/
def Obligations.AbsoluteCommitIsNotRepeated : Prop :=
  ∀ (s t : State) (sum : Word), s.mode = .absolute → s.cfg.atomicCommit = true → s.out = .valid sum →
    exec .interpret s = .next t →
      (∀ ch, bandEdge s.cfg ch - 250 < sum.toNat → (sum.toNat : Int) < bandEdge s.cfg ch →
        (2000 + (bandEdge s.cfg ch - sum.toNat) * 32 - (t.tgt.get ch).toNat).natAbs ≤ 100) ∧
      mapAbs t.cfg t.tgt sum.toNat = [] ∧
      ∀ (wd : Word) (lt : PerChannel Word) (led : PerChannel Bool),
        exec .interpret { t with wd := wd, lt := lt, led := led } = .next { t with wd := wd, lt := lt, led := led }

/-- R83: the command words of each producer. -/
def Obligations.ProducersWriteNoReservedWord : Prop :=
  (∀ (cfg : Config) (tgt : PerChannel Word) (sum : Nat) (ch : Channel) (v : Word),
    (Write.tgtw ch v ∈ writeList cfg .absolute tgt sum →
      classify v = .abs ∧ 2032 ≤ v.toNat ∧ v.toNat ≤ 9968 ∧ 32 ∣ v.toNat - 2032) ∧
    (Write.tgtw ch v ∈ writeList cfg .differential tgt sum → classify v = .abs ∧ 2001 ≤ v.toNat ∧ v.toNat ≤ 9999) ∧
    (Write.tgtw ch v ∈ writeList cfg .relative tgt sum →
      v.toNat ≤ 63 ∧ (classify v = .stop ∨ classify v = .inc ∨ classify v = .dec))) ∧
  (∀ (s : State) (ch : Channel), (s.recenter.tgt.get ch).toNat = 6000 ∧ classify (s.recenter.tgt.get ch) = .abs) ∧
  (∀ (s : State) (m : OpMode) (ch : Channel), classify ((s.resetRegs m).tgt.get ch) = .stop)

/-- ABS (R183): CCR[ch] takes the command word with no clamp, and nothing else changes. -/
def Obligations.AbsCommandWritesCompareUnclamped : Prop :=
  ∀ (s : State) (ch : Channel) (v : Word), ∃ ccr, exec (.abs ch v) s = .next { s with ccr := ccr } ∧ ccr.get ch = v ∧
    ∀ o, o ≠ ch → ccr.get o = s.ccr.get o

/-- INC (R184): CCR[ch] takes min(CCR[ch] + m, SERVO_MAX), the sum exact, and nothing else changes. -/
def Obligations.IncCommandAddsUpToServoMax : Prop :=
  ∀ (s : State) (ch : Channel) (m : BitVec 5), ∃ ccr, exec (.inc ch m) s = .next { s with ccr := ccr } ∧
    (ccr.get ch).toNat = min ((s.ccr.get ch).toNat + m.toNat) s.cfg.servoMax.toNat ∧
    ∀ o, o ≠ ch → ccr.get o = s.ccr.get o

/-- DEC (R185): CCR[ch] takes max(CCR[ch] − (32 + m − SERVO_RATE), SERVO_MIN), exact, and nothing else changes. The premise
is R12(e), under which the decrement is not negative. -/
def Obligations.DecCommandSubtractsDownToServoMin : Prop :=
  ∀ (s : State) (ch : Channel) (m : BitVec 5), s.cfg.servoRate.toNat ≤ 32 →
    ∃ ccr, exec (.dec ch m) s = .next { s with ccr := ccr } ∧
      ((ccr.get ch).toNat : Int) =
        max (((s.ccr.get ch).toNat : Int) - ((32 + m.toNat : Int) - s.cfg.servoRate.toNat)) s.cfg.servoMin.toNat ∧
      ∀ o, o ≠ ch → ccr.get o = s.ccr.get o

/-- STOP and RSVD (R186, R187): CCR[ch] holds, and nothing else changes. -/
def Obligations.StopAndReservedCommandsHold : Prop :=
  ∀ (s : State) (ch : Channel) (v : Word), exec (.stop ch) s = .next s ∧ exec (.rsvd ch v) s = .next s

/-- R37(c), as it reads: after a rate-regime update CCR[ch] lies in [SERVO_MIN, SERVO_MAX]. R184 and R185 bound it on one
side only, and an ABS write can leave it beyond the other (R183); expected to fail (log entry 10). -/
def Obligations.RateUpdateAlwaysLandsInRange : Prop :=
  ∀ (s t : State) (ch : Channel) (m : BitVec 5), s.cfg.ok = true → exec (.inc ch m) s = .next t ∨ exec (.dec ch m) s = .next t →
    s.cfg.servoMin.toNat ≤ (t.ccr.get ch).toNat ∧ (t.ccr.get ch).toNat ≤ s.cfg.servoMax.toNat

/-- R184, R185: an INC leaves CCR[ch] at most SERVO_MAX, a DEC at least SERVO_MIN, and each keeps a CCR[ch] in range. -/
def Obligations.RateUpdateKeepsTheRange : Prop :=
  ∀ (s : State) (ch : Channel) (m : BitVec 5), s.cfg.ok = true →
    ∃ t u, exec (.inc ch m) s = .next t ∧ exec (.dec ch m) s = .next u ∧
      (t.ccr.get ch).toNat ≤ s.cfg.servoMax.toNat ∧ s.cfg.servoMin.toNat ≤ (u.ccr.get ch).toNat ∧
      (s.cfg.servoMin.toNat ≤ (s.ccr.get ch).toNat → (s.ccr.get ch).toNat ≤ s.cfg.servoMax.toNat →
        s.cfg.servoMin.toNat ≤ (t.ccr.get ch).toNat ∧ (u.ccr.get ch).toNat ≤ s.cfg.servoMax.toNat)

/-- R180 to R190, R196: everything one rollover does, and its frame. The premise is R12(e). Nothing is said of an LT
of 65535, which no run reaches (R37(d); log entry 11). -/
def Obligations.RolloverHandlerEffect : Prop :=
  ∀ s : State, s.cfg.servoRate.toNat ≤ 32 →
    ∃ tgt ccr wd lt led,
      exec .rollover s = .next
        { s with
          intr := true
          tgt := tgt
          ccr := ccr
          wd := wd
          lt := lt
          led := led } ∧
      wd.toNat = min (s.wd.toNat + 1) s.cfg.servoTimeout.toNat ∧
      ∀ ch,
        (s.cfg.servoTimeout.toNat ≤ s.wd.toNat → s.mode = .differential →
          (tgt.get ch).toNat = 6000 ∧ (ccr.get ch).toNat = 6000) ∧
        (¬ (s.cfg.servoTimeout.toNat ≤ s.wd.toNat ∧ s.mode = .differential) →
          tgt.get ch = s.tgt.get ch ∧
          (2000 < (s.tgt.get ch).toNat → ccr.get ch = s.tgt.get ch) ∧
          (1 ≤ (s.tgt.get ch).toNat → (s.tgt.get ch).toNat ≤ 31 →
            (ccr.get ch).toNat = min ((s.ccr.get ch).toNat + (s.tgt.get ch).toNat) s.cfg.servoMax.toNat) ∧
          (32 ≤ (s.tgt.get ch).toNat → (s.tgt.get ch).toNat ≤ 63 →
            ((ccr.get ch).toNat : Int) =
              max (((s.ccr.get ch).toNat : Int) - ((s.tgt.get ch).toNat - s.cfg.servoRate.toNat)) s.cfg.servoMin.toNat) ∧
          ((s.tgt.get ch).toNat = 0 ∨ (64 ≤ (s.tgt.get ch).toNat ∧ (s.tgt.get ch).toNat ≤ 2000) →
            ccr.get ch = s.ccr.get ch)) ∧
        ((s.lt.get ch).toNat < 15 → (lt.get ch).toNat = (s.lt.get ch).toNat + 1 ∧ led.get ch = s.led.get ch) ∧
        (15 ≤ (s.lt.get ch).toNat → (s.lt.get ch).toNat < 65535 → (lt.get ch).toNat = 0 ∧ led.get ch = false)

/-- R180, R183 to R187: a rollover that does not recenter gives CCR what the two command words in TGT give it, each run as
an operation of its own, channel 1 and then channel 2. -/
def Obligations.RolloverRunsTheCommandWords : Prop :=
  ∀ s : State, ¬ (s.cfg.servoTimeout.toNat ≤ s.wd.toNat ∧ s.mode = .differential) →
    ∃ t1 t2 t, exec (decodeCommand .ch1 (s.tgt.get .ch1)) s = .next t1 ∧
      exec (decodeCommand .ch2 (s.tgt.get .ch2)) t1 = .next t2 ∧
      exec .rollover s = .next t ∧ t.ccr = t2.ccr ∧ t.tgt = s.tgt

/-- R189: outside Differential mode the value of WD changes nothing that a rollover does but WD itself, and each channel is
updated by the class of its command word whatever WD is. The premise on SERVO_RATE is R12(e). -/
def Obligations.WatchdogHasNoEffectOutsideDifferential : Prop :=
  ∀ (s : State) (w : Word), s.cfg.servoRate.toNat ≤ 32 → s.mode ≠ .differential →
    ∃ t u, exec .rollover s = .next t ∧ exec .rollover { s with wd := w } = .next u ∧ u = { t with wd := u.wd } ∧
      t.tgt = s.tgt ∧
      ∀ ch,
        (2000 < (s.tgt.get ch).toNat → t.ccr.get ch = s.tgt.get ch) ∧
        (1 ≤ (s.tgt.get ch).toNat → (s.tgt.get ch).toNat ≤ 31 →
          (t.ccr.get ch).toNat = min ((s.ccr.get ch).toNat + (s.tgt.get ch).toNat) s.cfg.servoMax.toNat) ∧
        (32 ≤ (s.tgt.get ch).toNat → (s.tgt.get ch).toNat ≤ 63 →
          ((t.ccr.get ch).toNat : Int) =
            max (((s.ccr.get ch).toNat : Int) - ((s.tgt.get ch).toNat - s.cfg.servoRate.toNat)) s.cfg.servoMin.toNat) ∧
        ((s.tgt.get ch).toNat = 0 ∨ (64 ≤ (s.tgt.get ch).toNat ∧ (s.tgt.get ch).toNat ≤ 2000) →
          t.ccr.get ch = s.ccr.get ch)

/-- R193(a): with a target m of at most 31 in TGT[ch] and CCR[ch] at most SERVO_MAX, n rollovers leave CCR[ch] at
min(CCR[ch] + n·m, SERVO_MAX). The premise on the mode keeps the recenter of R182 away. -/
def Obligations.RepeatedIncrementsStopAtServoMax : Prop :=
  ∀ (n : Nat) (s : State) (ch : Channel), s.cfg.ok = true → s.started = true → s.mode ≠ .differential →
    (s.tgt.get ch).toNat ≤ 31 → (s.ccr.get ch).toNat ≤ s.cfg.servoMax.toNat →
      ∃ t, runWords (List.replicate n rolloverWord) s = .next t ∧
        (t.ccr.get ch).toNat = min ((s.ccr.get ch).toNat + n * (s.tgt.get ch).toNat) s.cfg.servoMax.toNat

/-- R193(b): in Differential mode, from WD = 0, n rollovers up to SERVO_TIMEOUT leave WD = n and the targets alone, and
rollover SERVO_TIMEOUT + 1 sets both targets and both compare values to 6000. -/
def Obligations.WatchdogRecentersAfterTheTimeout : Prop :=
  ∀ s : State, s.cfg.ok = true → s.started = true → s.mode = .differential → s.wd.toNat = 0 →
    (∀ n, n ≤ s.cfg.servoTimeout.toNat → ∃ t, runWords (List.replicate n rolloverWord) s = .next t ∧
      t.wd.toNat = n ∧ t.tgt = s.tgt) ∧
    ∃ t, runWords (List.replicate (s.cfg.servoTimeout.toNat + 1) rolloverWord) s = .next t ∧
      ∀ ch, (t.tgt.get ch).toNat = 6000 ∧ (t.ccr.get ch).toNat = 6000

/-- R193(c): an indicator lit with its timeout at 0 stays lit through 15 rollovers, and the sixteenth puts it out. -/
def Obligations.IndicatorGoesOutAtTheSixteenthRollover : Prop :=
  ∀ (s : State) (ch : Channel), s.cfg.ok = true → s.started = true → s.led.get ch = true → (s.lt.get ch).toNat = 0 →
    (∀ n, n ≤ 15 → ∃ t, runWords (List.replicate n rolloverWord) s = .next t ∧ t.led.get ch = true ∧ (t.lt.get ch).toNat = n) ∧
    ∃ t, runWords (List.replicate 16 rolloverWord) s = .next t ∧ t.led.get ch = false ∧ (t.lt.get ch).toNat = 0

/-- EDGE (R214): it sets EDGEF, changes nothing when EDGEF is set already, and is dropped by a WAIT_ENTER. -/
def Obligations.EdgeSetsTheFlag : Prop :=
  ∀ s : State, exec .edge s = .next { s with edgef := true } ∧ (s.edgef = true → exec .edge s = .next s) ∧
    exec .waitEnter { s with edgef := true } = exec .waitEnter s

/-- R31, R106: two edges with no step between them count as one, and an edge before a WAIT_ENTER is erased by it. -/
def Obligations.EdgesMergeAndAreLost : Prop :=
  ∀ s : State, s.cfg.ok = true → s.started = true →
    (∃ t, runWords [edgeWord, edgeWord] s = .next t ∧ runWords [edgeWord] s = .next t ∧ t.edgef = true) ∧
    (s.phase = 0b001#3 →
      ∃ t, runWords [edgeWord, tickWord] s = .next t ∧ runWords [tickWord] s = .next t ∧ t.edgef = false ∧ t.phase = 0b010#3)

/-- R215(a): EDGE and ROLLOVER touch disjoint registers, so their order cannot be observed. -/
def Obligations.EdgeAndRolloverCommute : Prop :=
  ∀ s : State, s.cfg.ok = true → s.started = true →
    ∃ t, runWords [edgeWord, rolloverWord] s = .next t ∧ runWords [rolloverWord, edgeWord] s = .next t

/-- R101, R105: a rollover in any wait, before or after its WAIT_ENTER, makes the next poll abort: the FSM goes to CYC_START,
and nothing else changes but what the rollover itself changed and the EDGEF that a WAIT_ENTER on the way clears. -/
def Obligations.RolloverInAWaitAbortsTheCycle : Prop :=
  ∀ s : State, s.cfg.ok = true → s.started = true →
    ∃ t, exec .rollover s = .next t ∧
      (s.phase = 0b010#3 → runWords [rolloverWord, tickWord] s = .next { t with phase := 0b000#3 }) ∧
      (s.phase = 0b001#3 →
        runWords [rolloverWord, tickWord, tickWord] s = .next { t with edgef := false, phase := 0b000#3 })

/-- RESET (R36, R240): refused under unmapped pins, else every register at the value of the table, MODE from the pins. What
it does to the model's own fields is the model's choice: started is set (log entry 5), the configuration, the listed events
and the free index stay (log entry 16). -/
def Obligations.ResetGivesTheRegisterTable : Prop :=
  (∀ (s : State) (p : BitVec 2), s.cfg.modeMap.lookup p = none → exec (.reset p) s = .refused .modePinsUnmapped) ∧
  ∀ (s : State) (p : BitVec 2) (m : OpMode), s.cfg.modeMap.lookup p = some m →
    exec (.reset p) s = .next
      { cfg := s.cfg
        phase := 0b000#3
        wix := 0
        c := { c1 := 0#16, c2 := 0#16, c3 := 0#16, c4 := 0#16, c5 := 0#16 }
        out := .invalid
        mode := m
        tgt := { ch1 := 0#16, ch2 := 0#16 }
        ccr := { ch1 := 6000#16, ch2 := 6000#16 }
        wd := 0#16
        lt := { ch1 := 0#16, ch2 := 0#16 }
        led := { ch1 := false, ch2 := false }
        edgef := false
        intr := false
        pend := []
        started := true
        events := s.events
        freeIndex := s.freeIndex }

/-- THE MODEL'S CHOICE (log entries 2, 8): State.reset is what a RESET with pins 0b00 gives under the test configuration TC. -/
def Obligations.ResetStateIsAResetUnderTheTestConfiguration : Prop :=
  ∀ s : State, s.cfg = Config.test → s.events = [] → s.freeIndex = 0 → exec (.reset 0b00#2) s = .next State.reset

/-- R210: no operation traps or halts. Every operation has a next state, but for the two illegal encodings, a RESET with
unmapped pins and a TICK at a reserved phase. -/
def Obligations.EveryOperationGoesOn : Prop :=
  ∀ (i : Instr) (s : State),
    (∃ t, exec i s = .next t) ∨ (∃ x, i = .phaseReserved x) ∨ (∃ e, i = .eventMalformed e) ∨
      (∃ p, i = .reset p ∧ s.cfg.modeMap.lookup p = none) ∨ (i = .tick ∧ 6 ≤ s.phase.toNat)

/-- R20, R25, R34, R37(a): no operation changes the configuration, and none but a RESET changes MODE. -/
def Obligations.ModeAndConfigurationAreFixed : Prop :=
  ∀ (i : Instr) (s t : State), exec i s = .next t → t.cfg = s.cfg ∧ ((∀ p, i ≠ .reset p) → t.mode = s.mode)

/-- R28, R35: only the rollover handler, which runs the command words, and a RESET write CCR. -/
def Obligations.OnlyTheHandlerWritesCompare : Prop :=
  ∀ (i : Instr) (s t : State), exec i s = .next t → t.ccr ≠ s.ccr →
    i = .rollover ∨ (∃ p, i = .reset p) ∨ (∃ ch v, i = .abs ch v) ∨ (∃ ch m, i = .inc ch m) ∨ (∃ ch m, i = .dec ch m)

/-- R26, R27, R35: outside Differential mode only INTERPRET and COMMIT (or the TICK that runs one) and a RESET write TGT. -/
def Obligations.OnlyCommitsWriteTargetsOutsideDifferential : Prop :=
  ∀ (i : Instr) (s t : State), exec i s = .next t → s.mode ≠ .differential → t.tgt ≠ s.tgt →
    i = .interpret ∨ i = .commit ∨ (∃ p, i = .reset p) ∨
      (i = .tick ∧ (s.phase = 0b100#3 ∨ s.phase = 0b101#3))

/-- R31, R32: who sets and who clears the two flags. -/
def Obligations.FlagsHaveOneSetterAndOneClearer : Prop :=
  ∀ (i : Instr) (s t : State), exec i s = .next t →
    (s.edgef = false → t.edgef = true → i = .edge) ∧
    (s.edgef = true → t.edgef = false → i = .waitEnter ∨ (i = .tick ∧ s.phase = 0b001#3) ∨ ∃ p, i = .reset p) ∧
    (s.intr = false → t.intr = true → i = .rollover) ∧
    (s.intr = true → t.intr = false → i = .cycStart ∨ (i = .tick ∧ s.phase = 0b000#3) ∨ ∃ p, i = .reset p)

/-- R22, R29, R33, R36, R37, R83: the invariant holds right after reset, and after every RESET event. -/
def Obligations.InvariantHoldsAfterReset : Prop :=
  State.reset.Inv ∧ ∀ (s t : State) (p : BitVec 2), exec (.reset p) s = .next t → t.Inv

/-- R22, R29, R33, R37, R83, R140, R211: every step keeps the invariant. -/
def Obligations.StepKeepsTheInvariant : Prop :=
  ∀ s t : State, s.Inv → step s = .next t → t.Inv

/-- R211, R252: in a state of the invariant, under a configuration that meets R12, a listed event word that is not malformed
and does not reset to unmapped pins is always taken: the block goes on. -/
def Obligations.WellFormedEventsAreAlwaysTaken : Prop :=
  ∀ (s : State) (e : BitVec 4) (es : List (BitVec 4)), s.Inv → s.cfg.ok = true → s.events = e :: es →
    e.toNat ≤ 2 ∨ (∃ p m, e = p ++ 0b11#2 ∧ s.cfg.modeMap.lookup p = some m) →
      ∃ t, step s = .next t ∧ t.events = es ∧ t.Inv

/-- R92, R100 to R108, R140: the program CYCLE a b c d e, from CYC_START with INTR = 0 and PEND empty, ends at CYC_START
with the counters a to e, their outcome in OUT, and the write list of the operating mode applied when they are Valid. -/
def Obligations.CycleMeasuresAndCommits : Prop :=
  ∀ (s : State) (c : Counters), s.cfg.ok = true → s.started = true → s.phase = 0b000#3 → s.intr = false → s.pend = [] →
    runWords (cycleWords s c) s = .next
      { (match consensus c with
          | .invalid => s
          | .valid sum => applyAll (writeList s.cfg s.mode s.tgt sum.toNat) s) with
        phase := 0b000#3
        wix := s.cfg.settleWaits + 4
        c := c
        out := consensus c
        edgef := true }
end

