-- ==== Sys2Proof/Laws/Operands.lean ====
section
/-! SUPPORT. The laws of the banked registers and of narrowing: read after write, and every other register unchanged. -/

namespace Sys2Proof

@[simp] theorem PerChannel.get_ch1 {α : Type} (p : PerChannel α) : p.get .ch1 = p.ch1 := rfl
@[simp] theorem PerChannel.get_ch2 {α : Type} (p : PerChannel α) : p.get .ch2 = p.ch2 := rfl
@[simp] theorem PerChannel.set_ch1_ch1 {α : Type} (p : PerChannel α) (v : α) : (p.set .ch1 v).ch1 = v := rfl
@[simp] theorem PerChannel.set_ch1_ch2 {α : Type} (p : PerChannel α) (v : α) : (p.set .ch1 v).ch2 = p.ch2 := rfl
@[simp] theorem PerChannel.set_ch2_ch1 {α : Type} (p : PerChannel α) (v : α) : (p.set .ch2 v).ch1 = p.ch1 := rfl
@[simp] theorem PerChannel.set_ch2_ch2 {α : Type} (p : PerChannel α) (v : α) : (p.set .ch2 v).ch2 = v := rfl
@[simp] theorem PerChannel.get_both {α : Type} (ch : Channel) (v : α) : (PerChannel.both v).get ch = v := by
  cases ch <;> rfl
@[simp] theorem PerChannel.both_ch1 {α : Type} (v : α) : (PerChannel.both v).ch1 = v := rfl
@[simp] theorem PerChannel.both_ch2 {α : Type} (v : α) : (PerChannel.both v).ch2 = v := rfl

@[simp] theorem PerChannel.get_set_same {α : Type} (p : PerChannel α) (ch : Channel) (v : α) :
    (p.set ch v).get ch = v := by
  cases ch <;> rfl

theorem PerChannel.get_set_other {α : Type} (p : PerChannel α) {ch ch' : Channel} (h : ch' ≠ ch) (v : α) :
    (p.set ch v).get ch' = p.get ch' := by
  cases ch <;> cases ch' <;> first | rfl | exact absurd rfl h

@[simp] theorem PerChannel.set_get_self {α : Type} (p : PerChannel α) (ch : Channel) : p.set ch (p.get ch) = p := by
  cases ch <;> rfl

@[simp] theorem PerChannel.set_set_same {α : Type} (p : PerChannel α) (ch : Channel) (v w : α) :
    (p.set ch v).set ch w = p.set ch w := by
  cases ch <;> rfl

theorem PerChannel.ext_get {α : Type} {p q : PerChannel α} (h : ∀ ch, p.get ch = q.get ch) : p = q := by
  cases p
  cases q
  exact congrArg₂ PerChannel.mk (h .ch1) (h .ch2)

theorem Counters.get_set_same (c : Counters) {k : Nat} (h1 : 1 ≤ k) (h5 : k ≤ 5) (v : Word) : (c.set k v).get k = v := by
  interval_cases k <;> rfl

/-- An index above 5 names no counter. -/
theorem Counters.set_above (c : Counters) (k : Nat) (v : Word) : c.set (k + 6) v = c := rfl

theorem Counters.get_set_other (c : Counters) {j k : Nat} (h : j ≠ k) (v : Word) : (c.set k v).get j = c.get j := by
  rcases k with _ | _ | _ | _ | _ | _ | k
  case zero => rfl
  case succ.succ.succ.succ.succ.succ => rw [Counters.set_above]
  all_goals
    rcases j with _ | _ | _ | _ | _ | _ | j
    all_goals first | rfl | exact absurd rfl h

theorem Counters.set_set_same (c : Counters) (k : Nat) (v w : Word) : (c.set k v).set k w = c.set k w := by
  rcases k with _ | _ | _ | _ | _ | _ | k <;> rfl

theorem Counters.set_get_self (c : Counters) (k : Nat) : c.set k (c.get k) = c := by
  rcases k with _ | _ | _ | _ | _ | _ | k <;> rfl

/-- A result that fits u16 is written as it is (R9). -/
theorem narrow_toNat {x : Int} (h0 : 0 ≤ x) (h1 : x < 65536) : ((narrow x).toNat : Int) = x := by
  simp only [narrow, BitVec.toNat_ofInt]
  omega

theorem narrow_natCast_toNat {n : Nat} (h : n < 65536) : (narrow (n : Int)).toNat = n := by
  have := narrow_toNat (x := (n : Int)) (by omega) (by omega)
  omega

/-- The shape of the band tables, clause by clause (R145, R150). -/
theorem Config.tablesShaped_iff (cfg : Config) :
    cfg.tablesShaped = true ↔
      (cfg.relBands.filter fun r => decide (r.ch = .ch1)).length = 3 ∧
      (cfg.relBands.filter fun r => decide (r.ch = .ch2)).length = 3 ∧ cfg.diffBands.length = 4 := by
  simp [Config.tablesShaped]

/-- The checks of a configuration, apart (R12, R145, R150). -/
theorem Config.ok_iff (cfg : Config) :
    cfg.ok = true ↔
      cfg.per.decreasing = true ∧
      (bandsProper (relBounds cfg.relBands) = true ∧ bandsProper (diffBounds cfg.diffBands) = true) ∧
      (bandsApart (relBounds cfg.relBands) = true ∧ bandsApart (diffBounds cfg.diffBands) = true) ∧
      cfg.servoMin.toNat ≤ cfg.servoMax.toNat ∧ cfg.servoRate.toNat ≤ 32 ∧
      (cfg.settleWaits = 1 ∨ cfg.settleWaits = 2) ∧ cfg.absInRange = true ∧ cfg.tablesShaped = true := by
  simp [Config.ok, and_assoc]

end Sys2Proof
end

