-- ==== Sys2Proof/Laws/State.lean ====
section
/-! SUPPORT. What each update of the state leaves in each field, each true by rfl: the simp set of the state. -/

namespace Sys2Proof.Machine

@[simp] theorem State.goto_cfg (s : State) (p : Phase) : (s.goto p).cfg = s.cfg := rfl
@[simp] theorem State.goto_phase (s : State) (p : Phase) : (s.goto p).phase = p.code := rfl
@[simp] theorem State.goto_wix (s : State) (p : Phase) : (s.goto p).wix = s.wix := rfl
@[simp] theorem State.goto_c (s : State) (p : Phase) : (s.goto p).c = s.c := rfl
@[simp] theorem State.goto_out (s : State) (p : Phase) : (s.goto p).out = s.out := rfl
@[simp] theorem State.goto_mode (s : State) (p : Phase) : (s.goto p).mode = s.mode := rfl
@[simp] theorem State.goto_tgt (s : State) (p : Phase) : (s.goto p).tgt = s.tgt := rfl
@[simp] theorem State.goto_ccr (s : State) (p : Phase) : (s.goto p).ccr = s.ccr := rfl
@[simp] theorem State.goto_wd (s : State) (p : Phase) : (s.goto p).wd = s.wd := rfl
@[simp] theorem State.goto_lt (s : State) (p : Phase) : (s.goto p).lt = s.lt := rfl
@[simp] theorem State.goto_led (s : State) (p : Phase) : (s.goto p).led = s.led := rfl
@[simp] theorem State.goto_edgef (s : State) (p : Phase) : (s.goto p).edgef = s.edgef := rfl
@[simp] theorem State.goto_intr (s : State) (p : Phase) : (s.goto p).intr = s.intr := rfl
@[simp] theorem State.goto_pend (s : State) (p : Phase) : (s.goto p).pend = s.pend := rfl
@[simp] theorem State.goto_started (s : State) (p : Phase) : (s.goto p).started = s.started := rfl
@[simp] theorem State.goto_events (s : State) (p : Phase) : (s.goto p).events = s.events := rfl
@[simp] theorem State.goto_freeIndex (s : State) (p : Phase) : (s.goto p).freeIndex = s.freeIndex := rfl

@[simp] theorem State.setWix_cfg (s : State) (n : Nat) : (s.setWix n).cfg = s.cfg := rfl
@[simp] theorem State.setWix_phase (s : State) (n : Nat) : (s.setWix n).phase = s.phase := rfl
@[simp] theorem State.setWix_wix (s : State) (n : Nat) : (s.setWix n).wix = n := rfl
@[simp] theorem State.setWix_c (s : State) (n : Nat) : (s.setWix n).c = s.c := rfl
@[simp] theorem State.setWix_out (s : State) (n : Nat) : (s.setWix n).out = s.out := rfl
@[simp] theorem State.setWix_mode (s : State) (n : Nat) : (s.setWix n).mode = s.mode := rfl
@[simp] theorem State.setWix_tgt (s : State) (n : Nat) : (s.setWix n).tgt = s.tgt := rfl
@[simp] theorem State.setWix_ccr (s : State) (n : Nat) : (s.setWix n).ccr = s.ccr := rfl
@[simp] theorem State.setWix_wd (s : State) (n : Nat) : (s.setWix n).wd = s.wd := rfl
@[simp] theorem State.setWix_lt (s : State) (n : Nat) : (s.setWix n).lt = s.lt := rfl
@[simp] theorem State.setWix_led (s : State) (n : Nat) : (s.setWix n).led = s.led := rfl
@[simp] theorem State.setWix_edgef (s : State) (n : Nat) : (s.setWix n).edgef = s.edgef := rfl
@[simp] theorem State.setWix_intr (s : State) (n : Nat) : (s.setWix n).intr = s.intr := rfl
@[simp] theorem State.setWix_pend (s : State) (n : Nat) : (s.setWix n).pend = s.pend := rfl
@[simp] theorem State.setWix_started (s : State) (n : Nat) : (s.setWix n).started = s.started := rfl
@[simp] theorem State.setWix_events (s : State) (n : Nat) : (s.setWix n).events = s.events := rfl
@[simp] theorem State.setWix_freeIndex (s : State) (n : Nat) : (s.setWix n).freeIndex = s.freeIndex := rfl

@[simp] theorem State.setCounters_cfg (s : State) (x : Counters) : (s.setCounters x).cfg = s.cfg := rfl
@[simp] theorem State.setCounters_phase (s : State) (x : Counters) : (s.setCounters x).phase = s.phase := rfl
@[simp] theorem State.setCounters_wix (s : State) (x : Counters) : (s.setCounters x).wix = s.wix := rfl
@[simp] theorem State.setCounters_c (s : State) (x : Counters) : (s.setCounters x).c = x := rfl
@[simp] theorem State.setCounters_out (s : State) (x : Counters) : (s.setCounters x).out = s.out := rfl
@[simp] theorem State.setCounters_mode (s : State) (x : Counters) : (s.setCounters x).mode = s.mode := rfl
@[simp] theorem State.setCounters_tgt (s : State) (x : Counters) : (s.setCounters x).tgt = s.tgt := rfl
@[simp] theorem State.setCounters_ccr (s : State) (x : Counters) : (s.setCounters x).ccr = s.ccr := rfl
@[simp] theorem State.setCounters_wd (s : State) (x : Counters) : (s.setCounters x).wd = s.wd := rfl
@[simp] theorem State.setCounters_lt (s : State) (x : Counters) : (s.setCounters x).lt = s.lt := rfl
@[simp] theorem State.setCounters_led (s : State) (x : Counters) : (s.setCounters x).led = s.led := rfl
@[simp] theorem State.setCounters_edgef (s : State) (x : Counters) : (s.setCounters x).edgef = s.edgef := rfl
@[simp] theorem State.setCounters_intr (s : State) (x : Counters) : (s.setCounters x).intr = s.intr := rfl
@[simp] theorem State.setCounters_pend (s : State) (x : Counters) : (s.setCounters x).pend = s.pend := rfl
@[simp] theorem State.setCounters_started (s : State) (x : Counters) : (s.setCounters x).started = s.started := rfl
@[simp] theorem State.setCounters_events (s : State) (x : Counters) : (s.setCounters x).events = s.events := rfl
@[simp] theorem State.setCounters_freeIndex (s : State) (x : Counters) : (s.setCounters x).freeIndex = s.freeIndex := rfl

@[simp] theorem State.countTick_cfg (s : State) (k : Nat) : (s.countTick k).cfg = s.cfg := rfl
@[simp] theorem State.countTick_phase (s : State) (k : Nat) : (s.countTick k).phase = s.phase := rfl
@[simp] theorem State.countTick_wix (s : State) (k : Nat) : (s.countTick k).wix = s.wix := rfl
@[simp] theorem State.countTick_c (s : State) (k : Nat) : (s.countTick k).c = s.c.set k (s.c.get k + 1#16) := rfl
@[simp] theorem State.countTick_out (s : State) (k : Nat) : (s.countTick k).out = s.out := rfl
@[simp] theorem State.countTick_mode (s : State) (k : Nat) : (s.countTick k).mode = s.mode := rfl
@[simp] theorem State.countTick_tgt (s : State) (k : Nat) : (s.countTick k).tgt = s.tgt := rfl
@[simp] theorem State.countTick_ccr (s : State) (k : Nat) : (s.countTick k).ccr = s.ccr := rfl
@[simp] theorem State.countTick_wd (s : State) (k : Nat) : (s.countTick k).wd = s.wd := rfl
@[simp] theorem State.countTick_lt (s : State) (k : Nat) : (s.countTick k).lt = s.lt := rfl
@[simp] theorem State.countTick_led (s : State) (k : Nat) : (s.countTick k).led = s.led := rfl
@[simp] theorem State.countTick_edgef (s : State) (k : Nat) : (s.countTick k).edgef = s.edgef := rfl
@[simp] theorem State.countTick_intr (s : State) (k : Nat) : (s.countTick k).intr = s.intr := rfl
@[simp] theorem State.countTick_pend (s : State) (k : Nat) : (s.countTick k).pend = s.pend := rfl
@[simp] theorem State.countTick_started (s : State) (k : Nat) : (s.countTick k).started = s.started := rfl
@[simp] theorem State.countTick_events (s : State) (k : Nat) : (s.countTick k).events = s.events := rfl
@[simp] theorem State.countTick_freeIndex (s : State) (k : Nat) : (s.countTick k).freeIndex = s.freeIndex := rfl

@[simp] theorem State.setOut_cfg (s : State) (o : DecodeOutcome) : (s.setOut o).cfg = s.cfg := rfl
@[simp] theorem State.setOut_phase (s : State) (o : DecodeOutcome) : (s.setOut o).phase = s.phase := rfl
@[simp] theorem State.setOut_wix (s : State) (o : DecodeOutcome) : (s.setOut o).wix = s.wix := rfl
@[simp] theorem State.setOut_c (s : State) (o : DecodeOutcome) : (s.setOut o).c = s.c := rfl
@[simp] theorem State.setOut_out (s : State) (o : DecodeOutcome) : (s.setOut o).out = o := rfl
@[simp] theorem State.setOut_mode (s : State) (o : DecodeOutcome) : (s.setOut o).mode = s.mode := rfl
@[simp] theorem State.setOut_tgt (s : State) (o : DecodeOutcome) : (s.setOut o).tgt = s.tgt := rfl
@[simp] theorem State.setOut_ccr (s : State) (o : DecodeOutcome) : (s.setOut o).ccr = s.ccr := rfl
@[simp] theorem State.setOut_wd (s : State) (o : DecodeOutcome) : (s.setOut o).wd = s.wd := rfl
@[simp] theorem State.setOut_lt (s : State) (o : DecodeOutcome) : (s.setOut o).lt = s.lt := rfl
@[simp] theorem State.setOut_led (s : State) (o : DecodeOutcome) : (s.setOut o).led = s.led := rfl
@[simp] theorem State.setOut_edgef (s : State) (o : DecodeOutcome) : (s.setOut o).edgef = s.edgef := rfl
@[simp] theorem State.setOut_intr (s : State) (o : DecodeOutcome) : (s.setOut o).intr = s.intr := rfl
@[simp] theorem State.setOut_pend (s : State) (o : DecodeOutcome) : (s.setOut o).pend = s.pend := rfl
@[simp] theorem State.setOut_started (s : State) (o : DecodeOutcome) : (s.setOut o).started = s.started := rfl
@[simp] theorem State.setOut_events (s : State) (o : DecodeOutcome) : (s.setOut o).events = s.events := rfl
@[simp] theorem State.setOut_freeIndex (s : State) (o : DecodeOutcome) : (s.setOut o).freeIndex = s.freeIndex := rfl

@[simp] theorem State.setTgt_cfg (s : State) (ch : Channel) (v : Word) : (s.setTgt ch v).cfg = s.cfg := rfl
@[simp] theorem State.setTgt_phase (s : State) (ch : Channel) (v : Word) : (s.setTgt ch v).phase = s.phase := rfl
@[simp] theorem State.setTgt_wix (s : State) (ch : Channel) (v : Word) : (s.setTgt ch v).wix = s.wix := rfl
@[simp] theorem State.setTgt_c (s : State) (ch : Channel) (v : Word) : (s.setTgt ch v).c = s.c := rfl
@[simp] theorem State.setTgt_out (s : State) (ch : Channel) (v : Word) : (s.setTgt ch v).out = s.out := rfl
@[simp] theorem State.setTgt_mode (s : State) (ch : Channel) (v : Word) : (s.setTgt ch v).mode = s.mode := rfl
@[simp] theorem State.setTgt_tgt (s : State) (ch : Channel) (v : Word) : (s.setTgt ch v).tgt = s.tgt.set ch v := rfl
@[simp] theorem State.setTgt_ccr (s : State) (ch : Channel) (v : Word) : (s.setTgt ch v).ccr = s.ccr := rfl
@[simp] theorem State.setTgt_wd (s : State) (ch : Channel) (v : Word) : (s.setTgt ch v).wd = s.wd := rfl
@[simp] theorem State.setTgt_lt (s : State) (ch : Channel) (v : Word) : (s.setTgt ch v).lt = s.lt := rfl
@[simp] theorem State.setTgt_led (s : State) (ch : Channel) (v : Word) : (s.setTgt ch v).led = s.led := rfl
@[simp] theorem State.setTgt_edgef (s : State) (ch : Channel) (v : Word) : (s.setTgt ch v).edgef = s.edgef := rfl
@[simp] theorem State.setTgt_intr (s : State) (ch : Channel) (v : Word) : (s.setTgt ch v).intr = s.intr := rfl
@[simp] theorem State.setTgt_pend (s : State) (ch : Channel) (v : Word) : (s.setTgt ch v).pend = s.pend := rfl
@[simp] theorem State.setTgt_started (s : State) (ch : Channel) (v : Word) : (s.setTgt ch v).started = s.started := rfl
@[simp] theorem State.setTgt_events (s : State) (ch : Channel) (v : Word) : (s.setTgt ch v).events = s.events := rfl
@[simp] theorem State.setTgt_freeIndex (s : State) (ch : Channel) (v : Word) : (s.setTgt ch v).freeIndex = s.freeIndex := rfl

@[simp] theorem State.setCcr_cfg (s : State) (ch : Channel) (v : Word) : (s.setCcr ch v).cfg = s.cfg := rfl
@[simp] theorem State.setCcr_phase (s : State) (ch : Channel) (v : Word) : (s.setCcr ch v).phase = s.phase := rfl
@[simp] theorem State.setCcr_wix (s : State) (ch : Channel) (v : Word) : (s.setCcr ch v).wix = s.wix := rfl
@[simp] theorem State.setCcr_c (s : State) (ch : Channel) (v : Word) : (s.setCcr ch v).c = s.c := rfl
@[simp] theorem State.setCcr_out (s : State) (ch : Channel) (v : Word) : (s.setCcr ch v).out = s.out := rfl
@[simp] theorem State.setCcr_mode (s : State) (ch : Channel) (v : Word) : (s.setCcr ch v).mode = s.mode := rfl
@[simp] theorem State.setCcr_tgt (s : State) (ch : Channel) (v : Word) : (s.setCcr ch v).tgt = s.tgt := rfl
@[simp] theorem State.setCcr_ccr (s : State) (ch : Channel) (v : Word) : (s.setCcr ch v).ccr = s.ccr.set ch v := rfl
@[simp] theorem State.setCcr_wd (s : State) (ch : Channel) (v : Word) : (s.setCcr ch v).wd = s.wd := rfl
@[simp] theorem State.setCcr_lt (s : State) (ch : Channel) (v : Word) : (s.setCcr ch v).lt = s.lt := rfl
@[simp] theorem State.setCcr_led (s : State) (ch : Channel) (v : Word) : (s.setCcr ch v).led = s.led := rfl
@[simp] theorem State.setCcr_edgef (s : State) (ch : Channel) (v : Word) : (s.setCcr ch v).edgef = s.edgef := rfl
@[simp] theorem State.setCcr_intr (s : State) (ch : Channel) (v : Word) : (s.setCcr ch v).intr = s.intr := rfl
@[simp] theorem State.setCcr_pend (s : State) (ch : Channel) (v : Word) : (s.setCcr ch v).pend = s.pend := rfl
@[simp] theorem State.setCcr_started (s : State) (ch : Channel) (v : Word) : (s.setCcr ch v).started = s.started := rfl
@[simp] theorem State.setCcr_events (s : State) (ch : Channel) (v : Word) : (s.setCcr ch v).events = s.events := rfl
@[simp] theorem State.setCcr_freeIndex (s : State) (ch : Channel) (v : Word) : (s.setCcr ch v).freeIndex = s.freeIndex := rfl

@[simp] theorem State.setWd_cfg (s : State) (v : Word) : (s.setWd v).cfg = s.cfg := rfl
@[simp] theorem State.setWd_phase (s : State) (v : Word) : (s.setWd v).phase = s.phase := rfl
@[simp] theorem State.setWd_wix (s : State) (v : Word) : (s.setWd v).wix = s.wix := rfl
@[simp] theorem State.setWd_c (s : State) (v : Word) : (s.setWd v).c = s.c := rfl
@[simp] theorem State.setWd_out (s : State) (v : Word) : (s.setWd v).out = s.out := rfl
@[simp] theorem State.setWd_mode (s : State) (v : Word) : (s.setWd v).mode = s.mode := rfl
@[simp] theorem State.setWd_tgt (s : State) (v : Word) : (s.setWd v).tgt = s.tgt := rfl
@[simp] theorem State.setWd_ccr (s : State) (v : Word) : (s.setWd v).ccr = s.ccr := rfl
@[simp] theorem State.setWd_wd (s : State) (v : Word) : (s.setWd v).wd = v := rfl
@[simp] theorem State.setWd_lt (s : State) (v : Word) : (s.setWd v).lt = s.lt := rfl
@[simp] theorem State.setWd_led (s : State) (v : Word) : (s.setWd v).led = s.led := rfl
@[simp] theorem State.setWd_edgef (s : State) (v : Word) : (s.setWd v).edgef = s.edgef := rfl
@[simp] theorem State.setWd_intr (s : State) (v : Word) : (s.setWd v).intr = s.intr := rfl
@[simp] theorem State.setWd_pend (s : State) (v : Word) : (s.setWd v).pend = s.pend := rfl
@[simp] theorem State.setWd_started (s : State) (v : Word) : (s.setWd v).started = s.started := rfl
@[simp] theorem State.setWd_events (s : State) (v : Word) : (s.setWd v).events = s.events := rfl
@[simp] theorem State.setWd_freeIndex (s : State) (v : Word) : (s.setWd v).freeIndex = s.freeIndex := rfl

@[simp] theorem State.setLt_cfg (s : State) (ch : Channel) (v : Word) : (s.setLt ch v).cfg = s.cfg := rfl
@[simp] theorem State.setLt_phase (s : State) (ch : Channel) (v : Word) : (s.setLt ch v).phase = s.phase := rfl
@[simp] theorem State.setLt_wix (s : State) (ch : Channel) (v : Word) : (s.setLt ch v).wix = s.wix := rfl
@[simp] theorem State.setLt_c (s : State) (ch : Channel) (v : Word) : (s.setLt ch v).c = s.c := rfl
@[simp] theorem State.setLt_out (s : State) (ch : Channel) (v : Word) : (s.setLt ch v).out = s.out := rfl
@[simp] theorem State.setLt_mode (s : State) (ch : Channel) (v : Word) : (s.setLt ch v).mode = s.mode := rfl
@[simp] theorem State.setLt_tgt (s : State) (ch : Channel) (v : Word) : (s.setLt ch v).tgt = s.tgt := rfl
@[simp] theorem State.setLt_ccr (s : State) (ch : Channel) (v : Word) : (s.setLt ch v).ccr = s.ccr := rfl
@[simp] theorem State.setLt_wd (s : State) (ch : Channel) (v : Word) : (s.setLt ch v).wd = s.wd := rfl
@[simp] theorem State.setLt_lt (s : State) (ch : Channel) (v : Word) : (s.setLt ch v).lt = s.lt.set ch v := rfl
@[simp] theorem State.setLt_led (s : State) (ch : Channel) (v : Word) : (s.setLt ch v).led = s.led := rfl
@[simp] theorem State.setLt_edgef (s : State) (ch : Channel) (v : Word) : (s.setLt ch v).edgef = s.edgef := rfl
@[simp] theorem State.setLt_intr (s : State) (ch : Channel) (v : Word) : (s.setLt ch v).intr = s.intr := rfl
@[simp] theorem State.setLt_pend (s : State) (ch : Channel) (v : Word) : (s.setLt ch v).pend = s.pend := rfl
@[simp] theorem State.setLt_started (s : State) (ch : Channel) (v : Word) : (s.setLt ch v).started = s.started := rfl
@[simp] theorem State.setLt_events (s : State) (ch : Channel) (v : Word) : (s.setLt ch v).events = s.events := rfl
@[simp] theorem State.setLt_freeIndex (s : State) (ch : Channel) (v : Word) : (s.setLt ch v).freeIndex = s.freeIndex := rfl

@[simp] theorem State.setLed_cfg (s : State) (ch : Channel) (b : Bool) : (s.setLed ch b).cfg = s.cfg := rfl
@[simp] theorem State.setLed_phase (s : State) (ch : Channel) (b : Bool) : (s.setLed ch b).phase = s.phase := rfl
@[simp] theorem State.setLed_wix (s : State) (ch : Channel) (b : Bool) : (s.setLed ch b).wix = s.wix := rfl
@[simp] theorem State.setLed_c (s : State) (ch : Channel) (b : Bool) : (s.setLed ch b).c = s.c := rfl
@[simp] theorem State.setLed_out (s : State) (ch : Channel) (b : Bool) : (s.setLed ch b).out = s.out := rfl
@[simp] theorem State.setLed_mode (s : State) (ch : Channel) (b : Bool) : (s.setLed ch b).mode = s.mode := rfl
@[simp] theorem State.setLed_tgt (s : State) (ch : Channel) (b : Bool) : (s.setLed ch b).tgt = s.tgt := rfl
@[simp] theorem State.setLed_ccr (s : State) (ch : Channel) (b : Bool) : (s.setLed ch b).ccr = s.ccr := rfl
@[simp] theorem State.setLed_wd (s : State) (ch : Channel) (b : Bool) : (s.setLed ch b).wd = s.wd := rfl
@[simp] theorem State.setLed_lt (s : State) (ch : Channel) (b : Bool) : (s.setLed ch b).lt = s.lt := rfl
@[simp] theorem State.setLed_led (s : State) (ch : Channel) (b : Bool) : (s.setLed ch b).led = s.led.set ch b := rfl
@[simp] theorem State.setLed_edgef (s : State) (ch : Channel) (b : Bool) : (s.setLed ch b).edgef = s.edgef := rfl
@[simp] theorem State.setLed_intr (s : State) (ch : Channel) (b : Bool) : (s.setLed ch b).intr = s.intr := rfl
@[simp] theorem State.setLed_pend (s : State) (ch : Channel) (b : Bool) : (s.setLed ch b).pend = s.pend := rfl
@[simp] theorem State.setLed_started (s : State) (ch : Channel) (b : Bool) : (s.setLed ch b).started = s.started := rfl
@[simp] theorem State.setLed_events (s : State) (ch : Channel) (b : Bool) : (s.setLed ch b).events = s.events := rfl
@[simp] theorem State.setLed_freeIndex (s : State) (ch : Channel) (b : Bool) : (s.setLed ch b).freeIndex = s.freeIndex := rfl

@[simp] theorem State.setEdgef_cfg (s : State) (b : Bool) : (s.setEdgef b).cfg = s.cfg := rfl
@[simp] theorem State.setEdgef_phase (s : State) (b : Bool) : (s.setEdgef b).phase = s.phase := rfl
@[simp] theorem State.setEdgef_wix (s : State) (b : Bool) : (s.setEdgef b).wix = s.wix := rfl
@[simp] theorem State.setEdgef_c (s : State) (b : Bool) : (s.setEdgef b).c = s.c := rfl
@[simp] theorem State.setEdgef_out (s : State) (b : Bool) : (s.setEdgef b).out = s.out := rfl
@[simp] theorem State.setEdgef_mode (s : State) (b : Bool) : (s.setEdgef b).mode = s.mode := rfl
@[simp] theorem State.setEdgef_tgt (s : State) (b : Bool) : (s.setEdgef b).tgt = s.tgt := rfl
@[simp] theorem State.setEdgef_ccr (s : State) (b : Bool) : (s.setEdgef b).ccr = s.ccr := rfl
@[simp] theorem State.setEdgef_wd (s : State) (b : Bool) : (s.setEdgef b).wd = s.wd := rfl
@[simp] theorem State.setEdgef_lt (s : State) (b : Bool) : (s.setEdgef b).lt = s.lt := rfl
@[simp] theorem State.setEdgef_led (s : State) (b : Bool) : (s.setEdgef b).led = s.led := rfl
@[simp] theorem State.setEdgef_edgef (s : State) (b : Bool) : (s.setEdgef b).edgef = b := rfl
@[simp] theorem State.setEdgef_intr (s : State) (b : Bool) : (s.setEdgef b).intr = s.intr := rfl
@[simp] theorem State.setEdgef_pend (s : State) (b : Bool) : (s.setEdgef b).pend = s.pend := rfl
@[simp] theorem State.setEdgef_started (s : State) (b : Bool) : (s.setEdgef b).started = s.started := rfl
@[simp] theorem State.setEdgef_events (s : State) (b : Bool) : (s.setEdgef b).events = s.events := rfl
@[simp] theorem State.setEdgef_freeIndex (s : State) (b : Bool) : (s.setEdgef b).freeIndex = s.freeIndex := rfl

@[simp] theorem State.setIntr_cfg (s : State) (b : Bool) : (s.setIntr b).cfg = s.cfg := rfl
@[simp] theorem State.setIntr_phase (s : State) (b : Bool) : (s.setIntr b).phase = s.phase := rfl
@[simp] theorem State.setIntr_wix (s : State) (b : Bool) : (s.setIntr b).wix = s.wix := rfl
@[simp] theorem State.setIntr_c (s : State) (b : Bool) : (s.setIntr b).c = s.c := rfl
@[simp] theorem State.setIntr_out (s : State) (b : Bool) : (s.setIntr b).out = s.out := rfl
@[simp] theorem State.setIntr_mode (s : State) (b : Bool) : (s.setIntr b).mode = s.mode := rfl
@[simp] theorem State.setIntr_tgt (s : State) (b : Bool) : (s.setIntr b).tgt = s.tgt := rfl
@[simp] theorem State.setIntr_ccr (s : State) (b : Bool) : (s.setIntr b).ccr = s.ccr := rfl
@[simp] theorem State.setIntr_wd (s : State) (b : Bool) : (s.setIntr b).wd = s.wd := rfl
@[simp] theorem State.setIntr_lt (s : State) (b : Bool) : (s.setIntr b).lt = s.lt := rfl
@[simp] theorem State.setIntr_led (s : State) (b : Bool) : (s.setIntr b).led = s.led := rfl
@[simp] theorem State.setIntr_edgef (s : State) (b : Bool) : (s.setIntr b).edgef = s.edgef := rfl
@[simp] theorem State.setIntr_intr (s : State) (b : Bool) : (s.setIntr b).intr = b := rfl
@[simp] theorem State.setIntr_pend (s : State) (b : Bool) : (s.setIntr b).pend = s.pend := rfl
@[simp] theorem State.setIntr_started (s : State) (b : Bool) : (s.setIntr b).started = s.started := rfl
@[simp] theorem State.setIntr_events (s : State) (b : Bool) : (s.setIntr b).events = s.events := rfl
@[simp] theorem State.setIntr_freeIndex (s : State) (b : Bool) : (s.setIntr b).freeIndex = s.freeIndex := rfl

@[simp] theorem State.setPend_cfg (s : State) (ws : List Write) : (s.setPend ws).cfg = s.cfg := rfl
@[simp] theorem State.setPend_phase (s : State) (ws : List Write) : (s.setPend ws).phase = s.phase := rfl
@[simp] theorem State.setPend_wix (s : State) (ws : List Write) : (s.setPend ws).wix = s.wix := rfl
@[simp] theorem State.setPend_c (s : State) (ws : List Write) : (s.setPend ws).c = s.c := rfl
@[simp] theorem State.setPend_out (s : State) (ws : List Write) : (s.setPend ws).out = s.out := rfl
@[simp] theorem State.setPend_mode (s : State) (ws : List Write) : (s.setPend ws).mode = s.mode := rfl
@[simp] theorem State.setPend_tgt (s : State) (ws : List Write) : (s.setPend ws).tgt = s.tgt := rfl
@[simp] theorem State.setPend_ccr (s : State) (ws : List Write) : (s.setPend ws).ccr = s.ccr := rfl
@[simp] theorem State.setPend_wd (s : State) (ws : List Write) : (s.setPend ws).wd = s.wd := rfl
@[simp] theorem State.setPend_lt (s : State) (ws : List Write) : (s.setPend ws).lt = s.lt := rfl
@[simp] theorem State.setPend_led (s : State) (ws : List Write) : (s.setPend ws).led = s.led := rfl
@[simp] theorem State.setPend_edgef (s : State) (ws : List Write) : (s.setPend ws).edgef = s.edgef := rfl
@[simp] theorem State.setPend_intr (s : State) (ws : List Write) : (s.setPend ws).intr = s.intr := rfl
@[simp] theorem State.setPend_pend (s : State) (ws : List Write) : (s.setPend ws).pend = ws := rfl
@[simp] theorem State.setPend_started (s : State) (ws : List Write) : (s.setPend ws).started = s.started := rfl
@[simp] theorem State.setPend_events (s : State) (ws : List Write) : (s.setPend ws).events = s.events := rfl
@[simp] theorem State.setPend_freeIndex (s : State) (ws : List Write) : (s.setPend ws).freeIndex = s.freeIndex := rfl

@[simp] theorem State.setEvents_cfg (s : State) (es : List (BitVec 4)) : (s.setEvents es).cfg = s.cfg := rfl
@[simp] theorem State.setEvents_phase (s : State) (es : List (BitVec 4)) : (s.setEvents es).phase = s.phase := rfl
@[simp] theorem State.setEvents_wix (s : State) (es : List (BitVec 4)) : (s.setEvents es).wix = s.wix := rfl
@[simp] theorem State.setEvents_c (s : State) (es : List (BitVec 4)) : (s.setEvents es).c = s.c := rfl
@[simp] theorem State.setEvents_out (s : State) (es : List (BitVec 4)) : (s.setEvents es).out = s.out := rfl
@[simp] theorem State.setEvents_mode (s : State) (es : List (BitVec 4)) : (s.setEvents es).mode = s.mode := rfl
@[simp] theorem State.setEvents_tgt (s : State) (es : List (BitVec 4)) : (s.setEvents es).tgt = s.tgt := rfl
@[simp] theorem State.setEvents_ccr (s : State) (es : List (BitVec 4)) : (s.setEvents es).ccr = s.ccr := rfl
@[simp] theorem State.setEvents_wd (s : State) (es : List (BitVec 4)) : (s.setEvents es).wd = s.wd := rfl
@[simp] theorem State.setEvents_lt (s : State) (es : List (BitVec 4)) : (s.setEvents es).lt = s.lt := rfl
@[simp] theorem State.setEvents_led (s : State) (es : List (BitVec 4)) : (s.setEvents es).led = s.led := rfl
@[simp] theorem State.setEvents_edgef (s : State) (es : List (BitVec 4)) : (s.setEvents es).edgef = s.edgef := rfl
@[simp] theorem State.setEvents_intr (s : State) (es : List (BitVec 4)) : (s.setEvents es).intr = s.intr := rfl
@[simp] theorem State.setEvents_pend (s : State) (es : List (BitVec 4)) : (s.setEvents es).pend = s.pend := rfl
@[simp] theorem State.setEvents_started (s : State) (es : List (BitVec 4)) : (s.setEvents es).started = s.started := rfl
@[simp] theorem State.setEvents_events (s : State) (es : List (BitVec 4)) : (s.setEvents es).events = es := rfl
@[simp] theorem State.setEvents_freeIndex (s : State) (es : List (BitVec 4)) : (s.setEvents es).freeIndex = s.freeIndex := rfl

@[simp] theorem State.useFree_cfg (s : State) : (s.useFree).cfg = s.cfg := rfl
@[simp] theorem State.useFree_phase (s : State) : (s.useFree).phase = s.phase := rfl
@[simp] theorem State.useFree_wix (s : State) : (s.useFree).wix = s.wix := rfl
@[simp] theorem State.useFree_c (s : State) : (s.useFree).c = s.c := rfl
@[simp] theorem State.useFree_out (s : State) : (s.useFree).out = s.out := rfl
@[simp] theorem State.useFree_mode (s : State) : (s.useFree).mode = s.mode := rfl
@[simp] theorem State.useFree_tgt (s : State) : (s.useFree).tgt = s.tgt := rfl
@[simp] theorem State.useFree_ccr (s : State) : (s.useFree).ccr = s.ccr := rfl
@[simp] theorem State.useFree_wd (s : State) : (s.useFree).wd = s.wd := rfl
@[simp] theorem State.useFree_lt (s : State) : (s.useFree).lt = s.lt := rfl
@[simp] theorem State.useFree_led (s : State) : (s.useFree).led = s.led := rfl
@[simp] theorem State.useFree_edgef (s : State) : (s.useFree).edgef = s.edgef := rfl
@[simp] theorem State.useFree_intr (s : State) : (s.useFree).intr = s.intr := rfl
@[simp] theorem State.useFree_pend (s : State) : (s.useFree).pend = s.pend := rfl
@[simp] theorem State.useFree_started (s : State) : (s.useFree).started = s.started := rfl
@[simp] theorem State.useFree_events (s : State) : (s.useFree).events = s.events := rfl
@[simp] theorem State.useFree_freeIndex (s : State) : (s.useFree).freeIndex = s.freeIndex + 1 := rfl

@[simp] theorem State.resetRegs_cfg (s : State) (m : OpMode) : (s.resetRegs m).cfg = s.cfg := rfl
@[simp] theorem State.resetRegs_phase (s : State) (m : OpMode) : (s.resetRegs m).phase = Phase.code .cycStart := rfl
@[simp] theorem State.resetRegs_wix (s : State) (m : OpMode) : (s.resetRegs m).wix = 0 := rfl
@[simp] theorem State.resetRegs_c (s : State) (m : OpMode) : (s.resetRegs m).c = Counters.zero := rfl
@[simp] theorem State.resetRegs_out (s : State) (m : OpMode) : (s.resetRegs m).out = .invalid := rfl
@[simp] theorem State.resetRegs_mode (s : State) (m : OpMode) : (s.resetRegs m).mode = m := rfl
@[simp] theorem State.resetRegs_tgt (s : State) (m : OpMode) : (s.resetRegs m).tgt = PerChannel.both 0#16 := rfl
@[simp] theorem State.resetRegs_ccr (s : State) (m : OpMode) : (s.resetRegs m).ccr = PerChannel.both servoCenter := rfl
@[simp] theorem State.resetRegs_wd (s : State) (m : OpMode) : (s.resetRegs m).wd = 0#16 := rfl
@[simp] theorem State.resetRegs_lt (s : State) (m : OpMode) : (s.resetRegs m).lt = PerChannel.both 0#16 := rfl
@[simp] theorem State.resetRegs_led (s : State) (m : OpMode) : (s.resetRegs m).led = PerChannel.both false := rfl
@[simp] theorem State.resetRegs_edgef (s : State) (m : OpMode) : (s.resetRegs m).edgef = false := rfl
@[simp] theorem State.resetRegs_intr (s : State) (m : OpMode) : (s.resetRegs m).intr = false := rfl
@[simp] theorem State.resetRegs_pend (s : State) (m : OpMode) : (s.resetRegs m).pend = [] := rfl
@[simp] theorem State.resetRegs_started (s : State) (m : OpMode) : (s.resetRegs m).started = true := rfl
@[simp] theorem State.resetRegs_events (s : State) (m : OpMode) : (s.resetRegs m).events = s.events := rfl
@[simp] theorem State.resetRegs_freeIndex (s : State) (m : OpMode) : (s.resetRegs m).freeIndex = s.freeIndex := rfl

end Sys2Proof.Machine
end

