-- ==== Sys2Proof/Laws/Ops.lean ====
section
/-! SUPPORT. What each shared operation can do, said once: the write list, the mappers' delivery, the poll, the handler's parts. -/

namespace Sys2Proof.Machine

/-- One write of a commit changes TGT, WD, LT and LED and nothing else (R141). -/
theorem applyWrite_frame (w : Write) (s : State) :
    applyWrite w s =
      { s with
        tgt := (applyWrite w s).tgt
        wd := (applyWrite w s).wd
        lt := (applyWrite w s).lt
        led := (applyWrite w s).led } := by
  cases w <;> rfl

/-- The effect of one write is a function of TGT, WD, LT and LED alone. -/
theorem applyWrite_goto (w : Write) (s : State) (p : Phase) : applyWrite w (s.goto p) = (applyWrite w s).goto p := by
  cases w <;> rfl

theorem applyWrite_setPend (w : Write) (s : State) (ws : List Write) :
    applyWrite w (s.setPend ws) = (applyWrite w s).setPend ws := by
  cases w <;> rfl

theorem applyWrite_setEvents (w : Write) (s : State) (es : List (BitVec 4)) :
    applyWrite w (s.setEvents es) = (applyWrite w s).setEvents es := by
  cases w <;> rfl

@[simp] theorem applyAll_nil (s : State) : applyAll [] s = s := rfl
@[simp] theorem applyAll_cons (w : Write) (ws : List Write) (s : State) :
    applyAll (w :: ws) s = applyAll ws (applyWrite w s) := rfl

/-- The writes of a commit change TGT, WD, LT and LED and nothing else (R141). -/
theorem applyAll_frame (ws : List Write) (s : State) :
    applyAll ws s =
      { s with
        tgt := (applyAll ws s).tgt
        wd := (applyAll ws s).wd
        lt := (applyAll ws s).lt
        led := (applyAll ws s).led } := by
  induction ws generalizing s with
  | nil => rfl
  | cons w ws ih =>
    rw [applyAll_cons, ih (applyWrite w s)]
    rw [applyWrite_frame w s]

/-- What INTERPRET does with a write list (R140). -/
theorem deliver_cases (ws : List Write) (s : State) :
    (s.cfg.atomicCommit = true ∧ deliver ws s = (applyAll ws s).goto .cycStart) ∨
    (s.cfg.atomicCommit = false ∧ ws = [] ∧ deliver ws s = s.goto .cycStart) ∨
    (s.cfg.atomicCommit = false ∧ ws ≠ [] ∧ deliver ws s = (s.setPend ws).goto .commit) := by
  cases h : s.cfg.atomicCommit <;> cases ws <;> simp [deliver, h]

/-- What a COMMIT step does (R142). -/
theorem commitOnce_cases (s : State) :
    (∃ w rest, s.pend = w :: rest ∧
      commitOnce s = ((applyWrite w s).setPend rest).goto (if rest = [] then .cycStart else .commit)) ∨
    (s.pend = [] ∧
      commitOnce s = ((applyWrite (Config.freeWrite s.freeIndex) s.useFree).setPend []).goto .cycStart) := by
  cases h : s.pend with
  | nil => exact .inr ⟨rfl, by simp [commitOnce, h, commitPhase]⟩
  | cons w rest => exact .inl ⟨w, rest, rfl, by cases rest <;> simp [commitOnce, h, commitPhase]⟩

/-- What one poll does (R104). -/
theorem pollOnce_cases (s : State) :
    (s.intr = true ∧ pollOnce s = s.goto .cycStart) ∨
    (s.intr = false ∧ s.edgef = true ∧ s.wix = s.cfg.nWaitsTotal - 1 ∧ pollOnce s = s.goto .validate) ∨
    (s.intr = false ∧ s.edgef = true ∧ s.wix ≠ s.cfg.nWaitsTotal - 1 ∧
      pollOnce s = (s.setWix (s.wix + 1)).goto .waitEnter) ∨
    (s.intr = false ∧ s.edgef = false ∧ s.cfg.settleWaits ≤ s.wix ∧
      pollOnce s = (s.countTick (s.wix - s.cfg.settleWaits + 1)).goto .waitPoll) ∨
    (s.intr = false ∧ s.edgef = false ∧ s.wix < s.cfg.settleWaits ∧ pollOnce s = s.goto .waitPoll) := by
  cases hi : s.intr <;> cases he : s.edgef <;> simp only [pollOnce, hi, he]
  · by_cases h : s.cfg.settleWaits ≤ s.wix
    · simp [h]
    · simp [h]
      omega
  · by_cases h : s.wix = s.cfg.nWaitsTotal - 1 <;> simp [h]
  · simp
  · simp

/-- What the LED tick of a channel does (R190). -/
theorem ledTick_cases (s : State) (ch : Channel) :
    (15 < (s.lt.get ch + 1#16).toNat ∧ s.ledTick ch = (s.setLed ch false).setLt ch 0#16) ∨
    ((s.lt.get ch + 1#16).toNat ≤ 15 ∧ s.ledTick ch = s.setLt ch (s.lt.get ch + 1#16)) := by
  by_cases h : 15 < (s.lt.get ch + 1#16).toNat
  · exact .inl ⟨h, if_pos h⟩
  · exact .inr ⟨Nat.le_of_not_lt h, if_neg h⟩

/-- The LED tick changes LT and LED of its channel and nothing else (R190). -/
theorem ledTick_frame (s : State) (ch : Channel) :
    s.ledTick ch = { s with lt := s.lt.set ch ((s.ledTick ch).lt.get ch), led := s.led.set ch ((s.ledTick ch).led.get ch) } := by
  rcases ledTick_cases s ch with ⟨_, h⟩ | ⟨_, h⟩ <;> rw [h] <;> cases ch <;> rfl

/-- The update of a channel changes its CCR and nothing else (R180). -/
theorem channelUpdate_frame (ch : Channel) (s : State) :
    channelUpdate ch s = s.setCcr ch ((channelUpdate ch s).ccr.get ch) := by
  unfold channelUpdate
  cases classify (s.tgt.get ch) <;> simp [absEffect, incEffect, decEffect, stopEffect, rsvdEffect]

/-- The handler moves the channels by the recenter, or channel by channel (R180, R182). -/
theorem moveChannels_cases (s : State) :
    (s.mustRecenter = true ∧ moveChannels s = s.recenter) ∨
    (s.mustRecenter = false ∧ moveChannels s = channelUpdate .ch2 (channelUpdate .ch1 s)) := by
  cases h : s.mustRecenter <;> simp [moveChannels, h]

/-- The recenter writes TGT and CCR and nothing else (R182). -/
theorem recenter_eq (s : State) :
    s.recenter = { s with tgt := PerChannel.both servoCenter, ccr := PerChannel.both servoCenter } := rfl

/-- Moving the channels writes TGT and CCR and nothing else (R180, R182). -/
theorem moveChannels_frame (s : State) : ∃ tgt ccr, moveChannels s = { s with tgt := tgt, ccr := ccr } := by
  rcases moveChannels_cases s with ⟨_, h⟩ | ⟨_, h⟩
  · exact ⟨_, _, h.trans (recenter_eq s)⟩
  · refine ⟨s.tgt, (channelUpdate .ch2 (channelUpdate .ch1 s)).ccr, h.trans ?_⟩
    have h1 := channelUpdate_frame .ch1 s
    have h2 := channelUpdate_frame .ch2 (channelUpdate .ch1 s)
    generalize channelUpdate .ch1 s = u at h1 h2 ⊢
    generalize channelUpdate .ch2 u = v at h2 ⊢
    generalize u.ccr.get .ch1 = a at h1
    subst h1
    generalize v.ccr.get .ch2 = b at h2
    subst h2
    rfl

/-- The LED tick writes LT and LED and nothing else (R190). -/
theorem ledTick_writes (s : State) (ch : Channel) : ∃ lt led, s.ledTick ch = { s with lt := lt, led := led } :=
  ⟨_, _, ledTick_frame s ch⟩

/-- The handler reads and writes no foreground register but INTR (R196). -/
theorem rolloverHandler_frame (s : State) : ∃ tgt ccr wd lt led,
    rolloverHandler s =
      { s with
        intr := true
        tgt := tgt
        ccr := ccr
        wd := wd
        lt := lt
        led := led } := by
  obtain ⟨tgt, ccr, hm⟩ := moveChannels_frame s.enterRollover
  obtain ⟨lt1, led1, h1⟩ := ledTick_writes (moveChannels s.enterRollover).watchdogTick .ch1
  obtain ⟨lt2, led2, h2⟩ := ledTick_writes ((moveChannels s.enterRollover).watchdogTick.ledTick .ch1) .ch2
  refine ⟨tgt, ccr, (moveChannels s.enterRollover).watchdogTick.wd, lt2, led2, ?_⟩
  unfold rolloverHandler State.returnFromRollover
  rw [h2, h1]
  generalize hw : (moveChannels s.enterRollover).watchdogTick.wd = w
  have hw' : (moveChannels s.enterRollover).watchdogTick = (moveChannels s.enterRollover).setWd w := by
    rw [← hw]
    rfl
  rw [hw', hm]
  rfl

end Sys2Proof.Machine
end

