-- ==== Sys2Proof/Laws/PerInstr.lean ====
section
/-! SUPPORT. The family EncodeFormat: each operation is encoded on the interface that spec/opcode_table.json names as its format. -/

namespace Sys2Proof.Laws

/-- The three formats of the opcode table. -/
inductive Format where
  | command
  | phase
  | event
deriving DecidableEq, Repr

/-- The format of an encoded word. -/
def codeFormat : CodeWord → Format
  | .command _ _ => .command
  | .phase _ => .phase
  | .event _ => .event

/-- The format of an operation's row. -/
def rowFormat : Instr → Format
  | .abs _ _ => .command
  | .rsvd _ _ => .command
  | .dec _ _ => .command
  | .stop _ => .command
  | .inc _ _ => .command
  | .cycStart => .phase
  | .waitEnter => .phase
  | .waitPoll => .phase
  | .validate => .phase
  | .interpret => .phase
  | .commit => .phase
  | .phaseReserved _ => .phase
  | .tick => .event
  | .edge => .event
  | .rollover => .event
  | .reset _ => .event
  | .eventMalformed _ => .event

/-- An operation is encoded in its row's format. -/
def EncodeFormat.Statement (i : Instr) : Prop := codeFormat (encode i) = rowFormat i

theorem EncodeFormat.abs (ch : Channel) (v : Word) : EncodeFormat.Statement (.abs ch v) := rfl
theorem EncodeFormat.rsvd (ch : Channel) (v : Word) : EncodeFormat.Statement (.rsvd ch v) := rfl
theorem EncodeFormat.dec (ch : Channel) (m : BitVec 5) : EncodeFormat.Statement (.dec ch m) := rfl
theorem EncodeFormat.stop (ch : Channel) : EncodeFormat.Statement (.stop ch) := rfl
theorem EncodeFormat.inc (ch : Channel) (m : BitVec 5) : EncodeFormat.Statement (.inc ch m) := rfl
theorem EncodeFormat.cycStart : EncodeFormat.Statement .cycStart := rfl
theorem EncodeFormat.waitEnter : EncodeFormat.Statement .waitEnter := rfl
theorem EncodeFormat.waitPoll : EncodeFormat.Statement .waitPoll := rfl
theorem EncodeFormat.validate : EncodeFormat.Statement .validate := rfl
theorem EncodeFormat.interpret : EncodeFormat.Statement .interpret := rfl
theorem EncodeFormat.commit : EncodeFormat.Statement .commit := rfl
theorem EncodeFormat.phaseReserved (x : BitVec 1) : EncodeFormat.Statement (.phaseReserved x) := rfl
theorem EncodeFormat.tick : EncodeFormat.Statement .tick := rfl
theorem EncodeFormat.edge : EncodeFormat.Statement .edge := rfl
theorem EncodeFormat.rollover : EncodeFormat.Statement .rollover := rfl
theorem EncodeFormat.reset (p : BitVec 2) : EncodeFormat.Statement (.reset p) := rfl
theorem EncodeFormat.eventMalformed (e : BitVec 4) : EncodeFormat.Statement (.eventMalformed e) := rfl

end Sys2Proof.Laws
end

