-- ==== Sys2Proof/Laws/Step.lean ====
section
/-! SUPPORT. What one step can do, said once, and the laws of a run. -/

namespace Sys2Proof.Machine

@[simp] theorem State.nextEvent_cons {s : State} {e : BitVec 4} {es : List (BitVec 4)} (h : s.events = e :: es) :
    s.nextEvent = e := by
  simp [State.nextEvent, h]

@[simp] theorem State.afterEvent_cons {s : State} {e : BitVec 4} {es : List (BitVec 4)} (h : s.events = e :: es) :
    s.afterEvent = s.setEvents es := by
  simp [State.afterEvent, h]

/-- Everything a fetch can do (R12, R85, R211). -/
theorem fetch_cases (s : State) :
    (s.cfg.ok = false ∧ fetch s = .stop .badConfig) ∨
    (s.cfg.ok = true ∧ s.started = false ∧ isResetWord s.nextEvent = false ∧ fetch s = .stop .noReset) ∨
    (s.cfg.ok = true ∧ (s.started = true ∨ isResetWord s.nextEvent = true) ∧
      fetch s = .run (decodeEvent s.nextEvent) s.afterEvent) := by
  cases hc : s.cfg.ok <;> cases hs : s.started <;> cases hr : isResetWord s.nextEvent <;> simp [fetch, hc, hs, hr]

/-- Taking an event changes only the model's own fields. -/
theorem State.afterEvent_frame (s : State) :
    s.afterEvent = { s with events := s.afterEvent.events, freeIndex := s.afterEvent.freeIndex } := by
  unfold State.afterEvent
  split <;> rfl

theorem step_of_run {s u : State} {i : Instr} (h : fetch s = .run i u) : step s = exec i u := by
  rw [step, h, runFetched]

theorem step_of_stop {s : State} {r : Refusal} (h : fetch s = .stop r) : step s = .refused r := by
  rw [step, h, runFetched]

/-- A step that goes on ran the operation of the next event word (R85). -/
theorem step_next {s t : State} (h : step s = .next t) :
    s.cfg.ok = true ∧ (s.started = true ∨ isResetWord s.nextEvent = true) ∧
      exec (decodeEvent s.nextEvent) s.afterEvent = .next t := by
  rcases fetch_cases s with ⟨_, hf⟩ | ⟨_, _, _, hf⟩ | ⟨hc, hs, hf⟩
  · rw [step_of_stop hf] at h
    cases h
  · rw [step_of_stop hf] at h
    cases h
  · exact ⟨hc, hs, (step_of_run hf).symm.trans h⟩

/-- An operation that is decoded from an event word is a TICK, an EDGE, a ROLLOVER, a RESET or malformed (R85). -/
theorem decodeEvent_cases (e : BitVec 4) :
    decodeEvent e = .tick ∨ decodeEvent e = .edge ∨ decodeEvent e = .rollover ∨ (∃ p, decodeEvent e = .reset p) ∨
      decodeEvent e = .eventMalformed e := by
  unfold decodeEvent
  repeat' split
  all_goals simp

/-- A TICK at each legal phase (R84, R85). -/
theorem execTick_cases (s : State) :
    (s.phase = 0b000#3 ∧ execTick s = execCycStart s) ∨ (s.phase = 0b001#3 ∧ execTick s = execWaitEnter s) ∨
    (s.phase = 0b010#3 ∧ execTick s = execWaitPoll s) ∨ (s.phase = 0b011#3 ∧ execTick s = execValidate s) ∨
    (s.phase = 0b100#3 ∧ execTick s = execInterpret s) ∨ (s.phase = 0b101#3 ∧ execTick s = execCommit s) ∨
    (6 ≤ s.phase.toNat ∧ execTick s = .refused .reservedPhase) := by
  unfold execTick
  generalize s.phase = p
  have key : ∀ q : BitVec 3,
      (q = 0b000#3 ∧ phaseOf q = some .cycStart) ∨ (q = 0b001#3 ∧ phaseOf q = some .waitEnter) ∨
      (q = 0b010#3 ∧ phaseOf q = some .waitPoll) ∨ (q = 0b011#3 ∧ phaseOf q = some .validate) ∨
      (q = 0b100#3 ∧ phaseOf q = some .interpret) ∨ (q = 0b101#3 ∧ phaseOf q = some .commit) ∨
      (6 ≤ q.toNat ∧ phaseOf q = none) := by decide
  rcases key p with ⟨h, hp⟩ | ⟨h, hp⟩ | ⟨h, hp⟩ | ⟨h, hp⟩ | ⟨h, hp⟩ | ⟨h, hp⟩ | ⟨h, hp⟩ <;> rw [hp]
  · exact .inl ⟨h, rfl⟩
  · exact .inr (.inl ⟨h, rfl⟩)
  · exact .inr (.inr (.inl ⟨h, rfl⟩))
  · exact .inr (.inr (.inr (.inl ⟨h, rfl⟩)))
  · exact .inr (.inr (.inr (.inr (.inl ⟨h, rfl⟩))))
  · exact .inr (.inr (.inr (.inr (.inr (.inl ⟨h, rfl⟩)))))
  · exact .inr (.inr (.inr (.inr (.inr (.inr ⟨h, rfl⟩)))))

@[simp] theorem andThen_next (t : State) (f : State → Host.Outcome State Fault Refusal) : andThen (.next t) f = f t := rfl

@[simp] theorem andThen_refused (r : Refusal) (f : State → Host.Outcome State Fault Refusal) :
    andThen (.refused r) f = .refused r := rfl

@[simp] theorem runSteps_zero (s : State) : runSteps 0 s = .next s := rfl

theorem runSteps_succ (n : Nat) (s : State) : runSteps (n + 1) s = andThen (step s) (runSteps n) := rfl

/-- A run of `m + n` steps is a run of `m` steps and then one of `n`. -/
theorem runSteps_add (m n : Nat) (s : State) : runSteps (m + n) s = andThen (runSteps m s) (runSteps n) := by
  induction m generalizing s with
  | zero => simp
  | succ m ih =>
    rw [Nat.succ_add, runSteps_succ, runSteps_succ]
    cases step s with
    | next t => exact ih t
    | fault r => exact nomatch r
    | refused r => rfl

end Sys2Proof.Machine
end

