-- ==== Sys2Proof/Tests/Slice0.lean ====
section
/-! SUPPORT. The model's own tests: ill-formed terms that the checks refuse, decoded words written out from the tables of R80, R84 and R85, one-step vectors of spec/95_test_vectors.md, and a witness for the hypotheses of each statement. -/

namespace Sys2Proof.Machine.Tests

/-- The next state of an outcome. -/
def after (o : Host.Outcome State Fault Refusal) : Option State :=
  match o with
  | .next t => some t
  | .fault _ => none
  | .refused _ => none

/-- The reason of a refusal. -/
def reason (o : Host.Outcome State Fault Refusal) : Option Refusal :=
  match o with
  | .next _ => none
  | .fault _ => none
  | .refused r => some r

/-- Five equal counters. -/
def five (v : Word) : Counters := { c1 := v, c2 := v, c3 := v, c4 := v, c5 := v }

/-- A state in a mode with an OUT, at INTERPRET. -/
def interpreting (m : OpMode) (sum : Word) (tgt : PerChannel Word) : State :=
  { State.reset with phase := 0b100#3, mode := m, out := .valid sum, tgt := tgt }

/-- The same with ATOMIC_COMMIT = false. -/
def staged (s : State) : State := { s with cfg := { s.cfg with atomicCommit := false } }

/-- A state in a wait. -/
def waiting (wix : Nat) (edgef intr : Bool) : State :=
  { State.reset with phase := 0b010#3, wix := wix, edgef := edgef, intr := intr }

/-- A Relative state with the targets and compare values of a vector. -/
def ramping (t1 t2 c1 c2 : Word) : State :=
  { State.reset with mode := .relative, tgt := { ch1 := t1, ch2 := t2 }, ccr := { ch1 := c1, ch2 := c2 } }

/-- A Differential state with a watchdog count. -/
def driving (wd : Word) : State :=
  { State.reset with
    mode := .differential
    wd := wd
    tgt := { ch1 := 8400#16, ch2 := 8400#16 }
    ccr := { ch1 := 8400#16, ch2 := 8400#16 } }

/-! ### Ill-formed terms -/

theorem test_wf_refuses_abs_2000 : (Instr.abs .ch1 2000#16).wf = false := by decide
theorem test_wf_refuses_rsvd_63 : (Instr.rsvd .ch1 63#16).wf = false := by decide
theorem test_wf_refuses_rsvd_2001 : (Instr.rsvd .ch2 2001#16).wf = false := by decide
theorem test_wf_refuses_inc_0 : (Instr.inc .ch1 0#5).wf = false := by decide
theorem test_wf_refuses_event_without_pins : (Instr.eventMalformed 0b0010#4).wf = false := by decide
theorem test_wf_refuses_event_of_reset_kind : (Instr.eventMalformed 0b0111#4).wf = false := by decide

/-- TC meets R12 with either sign (decision D31). -/
theorem test_config_accepts_tc :
    Config.test.ok = true ∧ ({ Config.test with abs2Sign := .minus } : Config).ok = true := by decide
/-- R12(a): PER_2000 not below PER_1000. -/
theorem test_config_refuses_per_order :
    ({ Config.test with per := { PerTable.test with per2000 := 1052#16 } } : Config).ok = false := by decide
/-- R12(b): a band with lo = hi. -/
theorem test_config_refuses_empty_band :
    ({ Config.test with diffBands := Config.test.diffBands.set 0 { lo := 160#16, hi := 160#16, prim := .ff } } : Config).ok = false := by decide
/-- R12(c): two bands that overlap. -/
theorem test_config_refuses_overlap :
    ({ Config.test with diffBands := Config.test.diffBands.set 0 { lo := 149#16, hi := 175#16, prim := .ff } } : Config).ok =
      false := by decide
/-- R12(d): SERVO_MIN above SERVO_MAX. -/
theorem test_config_refuses_servo_bounds : ({ Config.test with servoMin := 9501#16 } : Config).ok = false := by decide
/-- R12(e): SERVO_RATE = 33. -/
theorem test_config_refuses_servo_rate : ({ Config.test with servoRate := 33#16 } : Config).ok = false := by decide
/-- R12(f): SETTLE_WAITS = 0 and 3. -/
theorem test_config_refuses_settle_waits :
    ({ Config.test with settleWaits := 0 } : Config).ok = false ∧
    ({ Config.test with settleWaits := 3 } : Config).ok = false := by decide
/-- R12(g): PER_1000 = 599 with ABS2_SIGN = −1. -/
theorem test_config_refuses_abs_bands :
    ({ Config.test with
        per := { PerTable.test with per1000 := 599#16 }
        abs2Sign := .minus } : Config).ok = false := by decide
/-- R145: a RELBANDS of five rows, and one of six rows with four of them for channel 2. -/
theorem test_config_refuses_rel_shape :
    ({ Config.test with relBands := Config.test.relBands.drop 1 } : Config).ok = false ∧
    ({ Config.test with relBands := Config.test.relBands.set 0 { lo := 263#16, hi := 351#16, ch := .ch2, kind := .stopBand } } :
      Config).ok = false := by decide
/-- R150: a DIFFBANDS of three rows. -/
theorem test_config_refuses_diff_shape :
    ({ Config.test with diffBands := Config.test.diffBands.drop 1 } : Config).ok = false := by decide

/-! ### Words written out from the encoding tables -/

theorem test_decode_abs : decodeCommand .ch1 0b0000011111010001#16 = .abs .ch1 2001#16 := by decide
theorem test_decode_abs_top : decodeCommand .ch2 0b1111111111111111#16 = .abs .ch2 65535#16 := by decide
theorem test_decode_rsvd : decodeCommand .ch1 0b0000000001000000#16 = .rsvd .ch1 64#16 := by decide
theorem test_decode_rsvd_top : decodeCommand .ch1 0b0000011111010000#16 = .rsvd .ch1 2000#16 := by decide
theorem test_decode_dec : decodeCommand .ch2 0b0000000000110010#16 = .dec .ch2 18#5 := by decide
theorem test_decode_dec_zero : decodeCommand .ch1 0b0000000000100000#16 = .dec .ch1 0#5 := by decide
theorem test_decode_stop : decodeCommand .ch1 0b0000000000000000#16 = .stop .ch1 := by decide
theorem test_decode_inc : decodeCommand .ch1 0b0000000000000111#16 = .inc .ch1 7#5 := by decide
theorem test_decode_inc_top : decodeCommand .ch2 0b0000000000011111#16 = .inc .ch2 31#5 := by decide
theorem test_decode_phases :
    [0b000#3, 0b001#3, 0b010#3, 0b011#3, 0b100#3, 0b101#3].map decodePhase =
      [.cycStart, .waitEnter, .waitPoll, .validate, .interpret, .commit] := by decide
theorem test_decode_phase_reserved :
    decodePhase 0b110#3 = .phaseReserved 0#1 ∧ decodePhase 0b111#3 = .phaseReserved 1#1 := by decide
theorem test_decode_tick : decodeEvent 0b0000#4 = .tick := by decide
theorem test_decode_edge : decodeEvent 0b0001#4 = .edge := by decide
theorem test_decode_rollover : decodeEvent 0b0010#4 = .rollover := by decide
/-- RESET words of the programs of spec/95_test_vectors.md: 0x3, 0x7, 0xB. -/
theorem test_decode_reset :
    [0x3#4, 0x7#4, 0xB#4, 0xF#4].map decodeEvent =
      [.reset 0b00#2, .reset 0b01#2, .reset 0b10#2, .reset 0b11#2] := by decide
theorem test_decode_malformed :
    decodeEvent 0b0100#4 = .eventMalformed 0b0100#4 ∧ decodeEvent 0b1110#4 = .eventMalformed 0b1110#4 := by decide
/-- Vector E1. -/
theorem test_classify_bounds :
    [0#16, 31#16, 32#16, 63#16, 64#16, 2000#16, 2001#16].map classify =
      [.stop, .inc, .dec, .dec, .rsvd, .rsvd, .abs] := by decide
/-- The host's questions: a command word, a phase code, an event word. -/
theorem test_table_words :
    decodeTableWord 16 7000 = some (.abs .ch1 7000#16) ∧ decodeTableWord 3 3 = some .validate ∧
    decodeTableWord 4 2 = some .rollover ∧ decodeTableWord 8 11 = some (.reset 0b10#2) ∧
    decodeTableWord 8 16 = none := by decide
/-- A command word placed in TGT[1] is what the next step runs: vector H1. -/
theorem test_fetch_command_word :
    (after (step (State.reset.withFetchWord 16 7000))).map (·.ccr) = some { ch1 := 7000#16, ch2 := 6000#16 } := by decide

/-! ### One-step vectors -/

/-- Vector H2: no clamp. -/
theorem test_abs_unclamped : (after (exec (.abs .ch1 9968#16) (ramping 0#16 0#16 6000#16 6000#16))).map (·.ccr) =
    some { ch1 := 9968#16, ch2 := 6000#16 } := by decide
/-- Vector H11. -/
theorem test_rsvd_holds : (after (exec (.rsvd .ch1 100#16) (ramping 100#16 0#16 5000#16 6000#16))).map (·.ccr) =
    some { ch1 := 5000#16, ch2 := 6000#16 } := by decide
/-- Vector H8: 2110 − 31, clamped at SERVO_MIN. -/
theorem test_dec_clamps : (after (exec (.dec .ch1 31#5) (ramping 0#16 0#16 2110#16 6000#16))).map (·.ccr.ch1) =
    some 2100#16 := by decide
/-- Vector H6. -/
theorem test_dec_by_31 : (after (exec (.dec .ch1 31#5) (ramping 0#16 0#16 6000#16 6000#16))).map (·.ccr.ch1) =
    some 5969#16 := by decide
/-- Vector H10. -/
theorem test_stop_holds : (after (exec (.stop .ch1) (ramping 0#16 0#16 9968#16 6000#16))).map (·.ccr.ch1) =
    some 9968#16 := by decide
/-- Vector H4: clamped at SERVO_MAX. -/
theorem test_inc_clamps : (after (exec (.inc .ch1 20#5) (ramping 0#16 0#16 9490#16 6000#16))).map (·.ccr.ch1) =
    some 9500#16 := by decide
/-- Vector H3. -/
theorem test_inc_by_31 : (after (exec (.inc .ch1 31#5) (ramping 0#16 0#16 6000#16 6000#16))).map (·.ccr.ch1) =
    some 6031#16 := by decide
/-- Vector W1. -/
theorem test_cyc_start : after (exec .cycStart { State.reset with c := five 9#16, intr := true, wix := 5, out := .valid 9#16 }) =
    some { State.reset with phase := 0b001#3 } := by decide
/-- Vector W2. -/
theorem test_wait_enter : after (exec .waitEnter { State.reset with edgef := true, wix := 2 }) =
    some (waiting 2 false false) := by decide
/-- Vector W7: the abort wins over the edge. -/
theorem test_poll_abort_wins : (after (exec .waitPoll (waiting 5 true true))).map (·.phase) = some 0b000#3 := by decide
/-- Vector W8: the count wraps. -/
theorem test_poll_wraps : (after (exec .waitPoll { waiting 3 false false with c := five 65535#16 })).map (·.c) =
    some { five 65535#16 with c3 := 0#16 } := by decide
/-- Vector F3. -/
theorem test_validate_second_triplet :
    (after (exec .validate { State.reset with c := { c1 := 100#16, c2 := 105#16, c3 := 102#16, c4 := 102#16, c5 := 102#16 } })).map
      (fun t => (t.out, t.phase)) = some (.valid 103#16, 0b100#3) := by decide
/-- Vector F10. -/
theorem test_validate_invalid :
    (after (exec .validate { State.reset with c := { c1 := 106#16, c2 := 104#16, c3 := 100#16, c4 := 500#16, c5 := 600#16 } })).map
      (fun t => (t.out, t.phase)) = some (.invalid, 0b000#3) := by decide
/-- Vector R7, with its indicator. -/
theorem test_interpret_relative :
    (after (exec .interpret (interpreting .relative 120#16 { ch1 := 5#16, ch2 := 5#16 }))).map
      (fun t => (t.tgt, t.led)) = some ({ ch1 := 0#16, ch2 := 57#16 }, { ch1 := false, ch2 := true }) := by decide
/-- Vector A11: a difference of 101 is committed. -/
theorem test_interpret_absolute :
    (after (exec .interpret (interpreting .absolute 1002#16 { ch1 := 3499#16, ch2 := 0#16 }))).map
      (fun t => (t.tgt, t.led)) = some ({ ch1 := 3600#16, ch2 := 0#16 }, { ch1 := true, ch2 := false }) := by decide
/-- Vector D6. -/
theorem test_map_diff : mapDiff Config.test 110 = [.wdclr, .tgtw .ch1 3669#16, .tgtw .ch2 8331#16] := by decide
/-- Vectors A9 and A10. -/
theorem test_map_abs :
    mapAbs Config.test { ch1 := 0#16, ch2 := 0#16 } 1302 = [.wdclr, .tgtw .ch2 5200#16, .ledtrig .ch2] ∧
    mapAbs Config.test { ch1 := 3500#16, ch2 := 0#16 } 1002 = [] := by decide
/-- The example of R142. -/
theorem test_commit_one_write :
    (after (exec .commit { State.reset with wd := 9#16, pend := [.wdclr, .tgtw .ch1 7000#16, .tgtw .ch2 5000#16] })).map
      (fun t => (t.wd, t.pend, t.phase)) = some (0#16, [.tgtw .ch1 7000#16, .tgtw .ch2 5000#16], 0b101#3) := by decide
/-- A TICK at phase WAIT_POLL polls: vector W5. -/
theorem test_tick_polls : (after (exec .tick (waiting 1 true false))).map (fun t => (t.wix, t.phase)) = some (2, 0b001#3) := by decide
/-- A TICK at a reserved phase (R84). -/
theorem test_tick_reserved : reason (exec .tick { State.reset with phase := 0b110#3 }) = some .reservedPhase := by decide
theorem test_phase_reserved : reason (exec (.phaseReserved 1#1) State.reset) = some .reservedPhase := by decide
/-- Vector E5. -/
theorem test_edge : after (exec .edge (waiting 1 true false)) = some (waiting 1 true false) := by decide
/-- The example of R180. -/
theorem test_rollover_ramps :
    (after (exec .rollover (ramping 5#16 40#16 6000#16 6000#16))).map (fun t => (t.ccr, t.wd, t.intr)) =
      some ({ ch1 := 6005#16, ch2 := 5992#16 }, 1#16, true) := by decide
/-- Vector H12. -/
theorem test_rollover_recenters :
    (after (exec .rollover (driving 50#16))).map (fun t => (t.tgt, t.ccr, t.wd)) =
      some ({ ch1 := 6000#16, ch2 := 6000#16 }, { ch1 := 6000#16, ch2 := 6000#16 }, 50#16) := by decide
/-- Vector E2. -/
theorem test_reset : after (exec (.reset 0b10#2) (driving 7#16)) = some { State.reset with mode := .differential } := by decide
/-- Vector E3. -/
theorem test_reset_unmapped : reason (exec (.reset 0b11#2) State.reset) = some .modePinsUnmapped := by decide
/-- Vector E4. -/
theorem test_event_malformed :
    reason (step { State.reset with events := [0b0100#4] }) = some .malformedEvent := by decide
/-- A run whose first event is not a RESET, and one under a configuration that fails R12 (R211). -/
theorem test_run_refusals :
    reason (step { State.reset with started := false, events := [0b0000#4] }) = some .noReset ∧
    reason (step { State.reset with cfg := { Config.test with servoRate := 33#16 } }) = some .badConfig := by decide

/-! ### Witnesses: concrete values that meet the hypotheses of each statement together, clause by clause -/

theorem test_hyp_DecodeInvertsEncode :
    (Instr.abs .ch1 2001#16).wf = true ∧ (Instr.rsvd .ch2 64#16).wf = true ∧ (Instr.rsvd .ch2 2000#16).wf = true ∧
    (Instr.inc .ch1 1#5).wf = true ∧ (Instr.eventMalformed 0b1110#4).wf = true := by decide
theorem test_hyp_RateWordsCarryTheirMagnitude :
    ((31#16).toNat ≤ 63 ∧ (31#16).getLsbD 5 = false) ∧ ((32#16).toNat ≤ 63 ∧ (32#16).getLsbD 5 = true) ∧
    ((63#16).toNat ≤ 63 ∧ (63#16).getLsbD 5 = true) := by decide
/-- The three cases: a listed event, none listed, and a first RESET. -/
theorem test_hyp_StepRunsTheNextEvent :
    (let s := { State.reset with events := [0b0001#4] }
     s.cfg.ok = true ∧ s.started = true ∧ s.events = [0b0001#4] ∧ decodeEvent 0b0001#4 = .edge) ∧
    (State.reset.cfg.ok = true ∧ State.reset.started = true ∧ State.reset.events = []) ∧
    (let s := { State.reset with started := false, events := [0b1011#4] }
     s.cfg.ok = true ∧ s.started = false ∧ s.events = (0b10#2 ++ 0b11#2) :: []) := by decide
theorem test_hyp_RefusalsAreTheFiveNamedOnes :
    State.reset.cfg.modeMap.lookup 0b11#2 = none ∧
    ({ State.reset with phase := 0b110#3 } : State).phase = 0b110#3 ∧
    (State.reset.cfg.ok = true ∧ (0b0100#4).toNat % 4 ≠ 3 ∧ (0b0100#4).toNat / 4 ≠ 0) ∧
    ({ State.reset with cfg := { Config.test with settleWaits := 0 } } : State).cfg.ok = false ∧
    (let s := { State.reset with started := false, events := [0b0000#4] }
     s.cfg.ok = true ∧ s.started = false ∧ s.events = [0b0000#4] ∧ (0b0000#4).toNat % 4 ≠ 3) ∧
    reason (step { State.reset with events := [0b0100#4] }) = some .malformedEvent := by decide
theorem test_hyp_TickRunsTheCurrentPhase :
    State.reset.phase.toNat < 6 ∧ ({ State.reset with phase := 0b101#3 } : State).phase.toNat < 6 := by decide
/-- The five cases at WIX 0 and 5, the bounds of R22 under SETTLE_WAITS = 1. -/
theorem test_hyp_WaitPollAbortsAdvancesOrCounts :
    (let s := waiting 5 true true; s.wix < s.cfg.settleWaits + 5 ∧ s.intr = true) ∧
    (let s := waiting 5 true false
     s.wix < s.cfg.settleWaits + 5 ∧ s.intr = false ∧ s.edgef = true ∧ s.wix + 1 = s.cfg.settleWaits + 5) ∧
    (let s := waiting 4 true false
     s.wix < s.cfg.settleWaits + 5 ∧ s.intr = false ∧ s.edgef = true ∧ s.wix + 1 ≠ s.cfg.settleWaits + 5) ∧
    (let s := waiting 0 false false
     s.wix < s.cfg.settleWaits + 5 ∧ s.intr = false ∧ s.edgef = false ∧ s.wix < s.cfg.settleWaits) ∧
    (let s := waiting 1 false false
     s.wix < s.cfg.settleWaits + 5 ∧ s.intr = false ∧ s.edgef = false ∧ s.cfg.settleWaits ≤ s.wix) := by decide
theorem test_hyp_WaitPollBeyondTheLastWaitCountsNothing :
    (let s := waiting 6 false true; s.cfg.settleWaits + 5 ≤ s.wix ∧ s.intr = true) ∧
    (let s := waiting 6 true false; s.cfg.settleWaits + 5 ≤ s.wix ∧ s.intr = false ∧ s.edgef = true) ∧
    (let s := waiting 6 false false; s.cfg.settleWaits + 5 ≤ s.wix ∧ s.intr = false ∧ s.edgef = false) := by decide
theorem test_hyp_PollsCountSampleTicks :
    (let s := waiting 1 false false
     s.cfg.ok = true ∧ s.started = true ∧ s.phase = 0b010#3 ∧ s.intr = false ∧ s.edgef = false ∧
       s.wix + 1 = s.cfg.settleWaits + 1) ∧
    (let s := waiting 5 false false; s.cfg.ok = true ∧ s.wix + 1 = s.cfg.settleWaits + 5) := by decide
theorem test_hyp_ValidateStoresTheOutcome :
    consensus { c1 := 50#16, c2 := 60#16, c3 := 70#16, c4 := 80#16, c5 := 90#16 } = .invalid ∧
    consensus (five 526#16) = .valid 526#16 := by decide
/-- Vectors F1, F3, F6 and F11: one for each clause. -/
theorem test_hyp_FilterTakesTheEarliestTriplet :
    TripletAccepted 526#16 526#16 526#16 ∧
    (¬ TripletAccepted 100#16 105#16 102#16 ∧ TripletAccepted 105#16 102#16 102#16) ∧
    (¬ TripletAccepted 10#16 20#16 30#16 ∧ ¬ TripletAccepted 20#16 30#16 31#16 ∧ TripletAccepted 30#16 31#16 32#16) ∧
    (¬ TripletAccepted 50#16 60#16 70#16 ∧ ¬ TripletAccepted 60#16 70#16 80#16 ∧ ¬ TripletAccepted 70#16 80#16 90#16) := by
  unfold TripletAccepted
  decide
/-- Three members 8 ticks apart, still accepted. -/
theorem test_hyp_AverageFitsAndTripletIsTight : acceptTriplet 100#16 104#16 98#16 = true := by decide
theorem test_hyp_InterpretDeliversTheWriteList :
    (let s := interpreting .absolute 1002#16 { ch1 := 0#16, ch2 := 0#16 }
     s.out = .valid 1002#16 ∧ s.cfg.atomicCommit = true) ∧
    (let s := staged (interpreting .differential 150#16 { ch1 := 0#16, ch2 := 0#16 })
     s.out = .valid 150#16 ∧ s.cfg.atomicCommit = false ∧ mapDiff s.cfg (150#16).toNat = []) ∧
    (let s := staged (interpreting .relative 250#16 { ch1 := 0#16, ch2 := 0#16 })
     s.out = .valid 250#16 ∧ s.cfg.atomicCommit = false ∧ mapRel s.cfg (250#16).toNat ≠ []) := by decide
theorem test_hyp_InterpretOfInvalidUsesAFreePeriod : State.reset.out = .invalid := by decide
theorem test_hyp_CommitAppliesTheFirstPendingWrite :
    ({ State.reset with pend := [.wdclr] } : State).pend = .wdclr :: [] ∧
    ({ State.reset with pend := [.wdclr, .ledtrig .ch2] } : State).pend = .wdclr :: [.ledtrig .ch2] := by decide
theorem test_hyp_CommitOfNothingAppliesAFreeWrite : State.reset.pend = [] := by decide
theorem test_hyp_StagedCommitEqualsAtomicCommit :
    let s := staged (interpreting .relative 120#16 { ch1 := 0#16, ch2 := 0#16 })
    s.cfg.ok = true ∧ s.started = true ∧ s.phase = 0b100#3 ∧ s.out = .valid 120#16 ∧ s.pend = [] ∧
      s.cfg.atomicCommit = false := by decide
/-- A period in no row of channel 2, and one in the second row of channel 1 (vector R2). -/
theorem test_hyp_RelativeTargetsFollowTheFirstRow :
    (∀ r ∈ Config.test.relBands, r.ch = .ch2 → ¬ (r.lo.toNat < 250 ∧ 250 < r.hi.toNat)) ∧
    (let rs := Config.test.relBands
     let r : RelBand := { lo := 210#16, hi := 263#16, ch := .ch1, kind := .plus }
     rs = rs.take 1 ++ r :: rs.drop 2 ∧ r.ch = .ch1 ∧ (r.lo.toNat < 250 ∧ 250 < r.hi.toNat) ∧
       ∀ q ∈ rs.take 1, q.ch = .ch1 → ¬ (q.lo.toNat < 250 ∧ 250 < q.hi.toNat)) := by decide
theorem test_hyp_RelativePeriodHitsAtMostOneChannel :
    Config.test.ok = true ∧
    (∃ r ∈ Config.test.relBands, r.lo.toNat < 211 ∧ 211 < r.hi.toNat) := by decide
/-- The row of vectors R2 to R4, at the two ends of its band. -/
theorem test_hyp_RateMagnitudeIsBoundedAndFalls :
    let r : RelBand := { lo := 210#16, hi := 263#16, ch := .ch1, kind := .plus }
    (InRow r.lo r.hi 211 ∧ InRow r.lo r.hi 262) ∧ 211 ≤ 262 := by
  unfold InRow
  decide
/-- A shared bound (vector D7), and the last row (vector D6). -/
theorem test_hyp_DifferentialTargetsFollowTheFirstRow :
    (∀ r ∈ Config.test.diffBands, ¬ (r.lo.toNat < 117 ∧ 117 < r.hi.toNat)) ∧
    (let rs := Config.test.diffBands
     let r : DiffBand := { lo := 105#16, hi := 117#16, prim := .bf }
     rs = rs.take 3 ++ r :: [] ∧ (r.lo.toNat < 110 ∧ 110 < r.hi.toNat) ∧
       ∀ q ∈ rs.take 3, ¬ (q.lo.toNat < 110 ∧ 110 < q.hi.toNat)) := by decide
/-- Vectors D8 and D9. -/
theorem test_hyp_DifferentialBoundaryChangesNothing :
    (let s := interpreting .differential 150#16 { ch1 := 0#16, ch2 := 0#16 }
     s.cfg.ok = true ∧ s.mode = .differential ∧ s.out = .valid 150#16 ∧
       ∃ r ∈ s.cfg.diffBands, 150#16 = r.lo ∨ 150#16 = r.hi) ∧
    (let s := interpreting .differential 200#16 { ch1 := 0#16, ch2 := 0#16 }
     s.out = .valid 200#16 ∧ ∀ r ∈ s.cfg.diffBands, ¬ (r.lo.toNat < (200#16).toNat ∧ (200#16).toNat < r.hi.toNat)) := by
  decide
/-- Both ends of the band of channel 1 (vectors A5 and A6), both sides of the hysteresis (A10 and A11), and a period just
outside (A8, which is also outside the band of channel 2). -/
theorem test_hyp_AbsoluteTargetsFollowTheBandEdge :
    (bandEdge Config.test .ch1 - 250 < (803 : Nat) ∧ ((803 : Nat) : Int) < bandEdge Config.test .ch1) ∧
    (bandEdge Config.test .ch1 - 250 < (1051 : Nat) ∧ ((1051 : Nat) : Int) < bandEdge Config.test .ch1) ∧
    100 < ((3600 : Int) - (3499#16).toNat).natAbs ∧ ((3600 : Int) - (3500#16).toNat).natAbs ≤ 100 ∧
    ¬ (bandEdge Config.test .ch1 - 250 < (1052 : Nat) ∧ ((1052 : Nat) : Int) < bandEdge Config.test .ch1) ∧
    ¬ (bandEdge Config.test .ch2 - 250 < (1052 : Nat) ∧ ((1052 : Nat) : Int) < bandEdge Config.test .ch2) := by decide
theorem test_hyp_AbsoluteCommitIsNotRepeated :
    let s := interpreting .absolute 1002#16 { ch1 := 0#16, ch2 := 0#16 }
    s.mode = .absolute ∧ s.cfg.atomicCommit = true ∧ s.out = .valid 1002#16 ∧
      (bandEdge s.cfg .ch1 - 250 < (1002#16).toNat ∧ ((1002#16).toNat : Int) < bandEdge s.cfg .ch1) ∧
      after (exec .interpret s) = some (applyAll [.wdclr, .tgtw .ch1 3600#16, .ledtrig .ch1] { s with phase := 0b000#3 }) := by
  decide
theorem test_hyp_ProducersWriteNoReservedWord :
    Write.tgtw .ch1 9968#16 ∈ writeList Config.test .absolute { ch1 := 0#16, ch2 := 0#16 } 803 ∧
    Write.tgtw .ch2 9663#16 ∈ writeList Config.test .differential { ch1 := 0#16, ch2 := 0#16 } 106 ∧
    Write.tgtw .ch2 57#16 ∈ writeList Config.test .relative { ch1 := 0#16, ch2 := 0#16 } 120 := by decide
theorem test_hyp_DecCommandSubtractsDownToServoMin : State.reset.cfg.servoRate.toNat ≤ 32 := by decide
/-- This one also refutes the statement: 2032 + 1 stays below SERVO_MIN = 2100 (log entry 10). -/
theorem test_hyp_RateUpdateAlwaysLandsInRange :
    let s := ramping 1#16 0#16 2032#16 6000#16
    s.cfg.ok = true ∧ (after (exec (.inc .ch1 1#5) s)).map (fun t => (t.ccr.get .ch1).toNat) = some 2033 := by decide
theorem test_hyp_RateUpdateKeepsTheRange :
    let s := ramping 0#16 0#16 9500#16 2100#16
    s.cfg.ok = true ∧ s.cfg.servoMin.toNat ≤ (s.ccr.get .ch1).toNat ∧ (s.ccr.get .ch1).toNat ≤ s.cfg.servoMax.toNat ∧
      s.cfg.servoMin.toNat ≤ (s.ccr.get .ch2).toNat ∧ (s.ccr.get .ch2).toNat ≤ s.cfg.servoMax.toNat := by decide
/-- The recenter at WD = SERVO_TIMEOUT and the update one below it, with targets at the bounds of each class, and both
indicator cases. -/
theorem test_hyp_RolloverHandlerEffect :
    (let s := driving 50#16
     s.cfg.servoRate.toNat ≤ 32 ∧ s.cfg.servoTimeout.toNat ≤ s.wd.toNat ∧ s.mode = .differential) ∧
    (let s := { driving 49#16 with tgt := { ch1 := 2001#16, ch2 := 2000#16 }, lt := { ch1 := 14#16, ch2 := 15#16 } }
     ¬ (s.cfg.servoTimeout.toNat ≤ s.wd.toNat ∧ s.mode = .differential) ∧ 2000 < (s.tgt.get .ch1).toNat ∧
       64 ≤ (s.tgt.get .ch2).toNat ∧ (s.tgt.get .ch2).toNat ≤ 2000 ∧ (s.lt.get .ch1).toNat < 15 ∧
       15 ≤ (s.lt.get .ch2).toNat ∧ (s.lt.get .ch2).toNat < 65535) ∧
    (let s := ramping 31#16 32#16 6000#16 6000#16
     ¬ (s.cfg.servoTimeout.toNat ≤ s.wd.toNat ∧ s.mode = .differential) ∧ 1 ≤ (s.tgt.get .ch1).toNat ∧
       (s.tgt.get .ch1).toNat ≤ 31 ∧ 32 ≤ (s.tgt.get .ch2).toNat ∧ (s.tgt.get .ch2).toNat ≤ 63) := by decide
theorem test_hyp_RolloverRunsTheCommandWords :
    let s := driving 49#16
    ¬ (s.cfg.servoTimeout.toNat ≤ s.wd.toNat ∧ s.mode = .differential) := by decide
/-- Targets at the bounds of the classes, with the watchdog saturated. -/
theorem test_hyp_WatchdogHasNoEffectOutsideDifferential :
    (let s := { ramping 1#16 63#16 6000#16 6000#16 with wd := 50#16 }
     s.cfg.servoRate.toNat ≤ 32 ∧ s.mode ≠ .differential ∧ 1 ≤ (s.tgt.get .ch1).toNat ∧ (s.tgt.get .ch1).toNat ≤ 31 ∧
       32 ≤ (s.tgt.get .ch2).toNat ∧ (s.tgt.get .ch2).toNat ≤ 63) ∧
    (let s := { ramping 2001#16 64#16 6000#16 6000#16 with wd := 50#16 }
     s.cfg.servoRate.toNat ≤ 32 ∧ s.mode ≠ .differential ∧ 2000 < (s.tgt.get .ch1).toNat ∧
       64 ≤ (s.tgt.get .ch2).toNat ∧ (s.tgt.get .ch2).toNat ≤ 2000) := by decide
theorem test_hyp_RepeatedIncrementsStopAtServoMax :
    let s := ramping 31#16 1#16 9500#16 6000#16
    s.cfg.ok = true ∧ s.started = true ∧ s.mode ≠ .differential ∧
      (s.tgt.get .ch1).toNat ≤ 31 ∧ (s.ccr.get .ch1).toNat ≤ s.cfg.servoMax.toNat := by decide
theorem test_hyp_WatchdogRecentersAfterTheTimeout :
    let s := driving 0#16
    s.cfg.ok = true ∧ s.started = true ∧ s.mode = .differential ∧ s.wd.toNat = 0 := by decide
theorem test_hyp_IndicatorGoesOutAtTheSixteenthRollover :
    let s := { State.reset with led := { ch1 := true, ch2 := false } }
    s.cfg.ok = true ∧ s.started = true ∧ s.led.get .ch1 = true ∧ (s.lt.get .ch1).toNat = 0 := by decide
theorem test_hyp_EdgeSetsTheFlag : (waiting 1 true false).edgef = true := by decide
theorem test_hyp_EdgesMergeAndAreLost :
    let s := { State.reset with phase := 0b001#3 }
    s.cfg.ok = true ∧ s.started = true ∧ s.phase = 0b001#3 := by decide
theorem test_hyp_EdgeAndRolloverCommute : State.reset.cfg.ok = true ∧ State.reset.started = true := by decide
theorem test_hyp_RolloverInAWaitAbortsTheCycle :
    (let s := waiting 0 false false; s.cfg.ok = true ∧ s.started = true ∧ s.phase = 0b010#3) ∧
    (let s := { waiting 5 true false with phase := 0b001#3 }
     s.cfg.ok = true ∧ s.started = true ∧ s.phase = 0b001#3) := by decide
theorem test_hyp_ResetGivesTheRegisterTable :
    State.reset.cfg.modeMap.lookup 0b11#2 = none ∧
    State.reset.cfg.modeMap.lookup 0b00#2 = some .absolute ∧ State.reset.cfg.modeMap.lookup 0b10#2 = some .differential := by
  decide
theorem test_hyp_ResetStateIsAResetUnderTheTestConfiguration :
    let s := { driving 9#16 with started := false }
    s.cfg = Config.test ∧ s.events = [] ∧ s.freeIndex = 0 := by decide
theorem test_hyp_ModeAndConfigurationAreFixed : (after (exec .edge State.reset)).isSome = true ∧ ∀ p, Instr.edge ≠ .reset p := by
  decide
/-- An operation of each kind that changes CCR. -/
theorem test_hyp_OnlyTheHandlerWritesCompare :
    let s := ramping 5#16 0#16 5000#16 6000#16
    [Instr.rollover, .reset 0b01#2, .abs .ch1 7000#16, .inc .ch1 1#5, .dec .ch1 1#5].map
      (fun i => (after (exec i s)).map fun t => decide (t.ccr ≠ s.ccr)) =
      [some true, some true, some true, some true, some true] := by decide
/-- An operation of each kind that changes TGT outside Differential mode. -/
theorem test_hyp_OnlyCommitsWriteTargetsOutsideDifferential :
    let s := { interpreting .relative 250#16 { ch1 := 1#16, ch2 := 1#16 } with pend := [.tgtw .ch1 7#16] }
    s.mode ≠ .differential ∧
    [Instr.interpret, .commit, .reset 0b01#2, .tick].map (fun i => (after (exec i s)).map fun t => decide (t.tgt ≠ s.tgt)) =
      [some true, some true, some true, some true] := by decide
/-- One transition of each flag. -/
theorem test_hyp_FlagsHaveOneSetterAndOneClearer :
    (after (exec .edge (waiting 0 false false))).map (·.edgef) = some true ∧
    (after (exec .waitEnter (waiting 0 true false))).map (·.edgef) = some false ∧
    (after (exec .rollover (waiting 0 false false))).map (·.intr) = some true ∧
    (after (exec .cycStart (waiting 0 false true))).map (·.intr) = some false := by decide
theorem test_hyp_InvariantHoldsAfterReset : (after (exec (.reset 0b10#2) (driving 9#16))).isSome = true := by decide
theorem test_hyp_StepKeepsTheInvariant :
    let s := { State.reset with events := [0b0010#4] }
    s.Inv ∧ (after (step s)).isSome = true := by decide
theorem test_hyp_WellFormedEventsAreAlwaysTaken :
    (let s := { State.reset with events := [0b0010#4] }
     s.Inv ∧ s.cfg.ok = true ∧ s.events = [0b0010#4] ∧ (0b0010#4).toNat ≤ 2) ∧
    (0b1011#4 = 0b10#2 ++ 0b11#2 ∧ State.reset.cfg.modeMap.lookup 0b10#2 = some .differential) := by decide
theorem test_hyp_CycleMeasuresAndCommits :
    State.reset.cfg.ok = true ∧ State.reset.started = true ∧ State.reset.phase = 0b000#3 ∧ State.reset.intr = false ∧
      State.reset.pend = [] := by decide

end Sys2Proof.Machine.Tests
end

section
/-! The scope family: what the configuration checks mean (R12, R145, R150), and the foreground step of a TICK (R84, R85). -/

namespace Sys2Proof

/-- R12(a): the calibration table falls strictly, written from PER_10000 up. -/
theorem PerTable.decreasing_iff (p : PerTable) :
    p.decreasing = true ↔
      p.per10000.toNat < p.per9000.toNat ∧ p.per9000.toNat < p.per8000.toNat ∧
      p.per8000.toNat < p.per7000.toNat ∧ p.per7000.toNat < p.per6000.toNat ∧
      p.per6000.toNat < p.per5000.toNat ∧ p.per5000.toNat < p.per4000.toNat ∧
      p.per4000.toNat < p.per3000.toNat ∧ p.per3000.toNat < p.per2000.toNat ∧
      p.per2000.toNat < p.per1000.toNat := by
  simp only [PerTable.decreasing, List.all_cons, List.all_nil, id_eq, Bool.and_eq_true, decide_eq_true_eq]
  tauto

theorem bandsProper_iff (bs : List (Nat × Nat)) : bandsProper bs = true ↔ ∀ b ∈ bs, b.1 < b.2 := by
  simp [bandsProper]

theorem bandsProper_relBounds_iff (bs : List RelBand) :
    bandsProper (relBounds bs) = true ↔ ∀ r ∈ bs, r.lo.toNat < r.hi.toNat := by
  simp [bandsProper_iff, relBounds]

theorem bandsProper_diffBounds_iff (bs : List DiffBand) :
    bandsProper (diffBounds bs) = true ↔ ∀ r ∈ bs, r.lo.toNat < r.hi.toNat := by
  simp [bandsProper_iff, diffBounds]

theorem apart_iff (a b : Nat × Nat) : apart a b = true ↔ a.2 ≤ b.1 ∨ b.2 ≤ a.1 := by
  simp [apart]

/-- R12(c): the recursive check of a table compares every two of its bands. -/
theorem bandsApart_iff_pairwise (bs : List (Nat × Nat)) :
    bandsApart bs = true ↔ bs.Pairwise fun a b => a.2 ≤ b.1 ∨ b.2 ≤ a.1 := by
  induction bs with
  | nil => simp [bandsApart]
  | cons b bs ih => simp only [bandsApart, Bool.and_eq_true, List.all_eq_true, apart_iff, ih, List.pairwise_cons]

theorem bandsApart_relBounds_iff (bs : List RelBand) :
    bandsApart (relBounds bs) = true ↔
      bs.Pairwise fun a b => a.hi.toNat ≤ b.lo.toNat ∨ b.hi.toNat ≤ a.lo.toNat := by
  rw [bandsApart_iff_pairwise, relBounds, List.pairwise_map]

theorem bandsApart_diffBounds_iff (bs : List DiffBand) :
    bandsApart (diffBounds bs) = true ↔
      bs.Pairwise fun a b => a.hi.toNat ≤ b.lo.toNat ∨ b.hi.toNat ≤ a.lo.toNat := by
  rw [bandsApart_iff_pairwise, diffBounds, List.pairwise_map]

/-- R12(g): the band of channel 2 adds a bound of its own, 350 + 250, only when ABS2_SIGN moves it down. -/
theorem Config.absInRange_iff (cfg : Config) :
    cfg.absInRange = true ↔
      250 ≤ cfg.per.per1000.toNat ∧ (cfg.abs2Sign = .minus → 600 ≤ cfg.per.per1000.toNat) := by
  rw [Config.absInRange, Bool.and_eq_true, decide_eq_true_eq, decide_eq_true_eq]
  cases cfg.abs2Sign with
  | plus =>
    simp only [Sign.toInt, absWidth, abs2OffsetMag, reduceCtorEq, false_implies, and_true]
    omega
  | minus =>
    simp only [Sign.toInt, absWidth, abs2OffsetMag, true_implies]
    omega

theorem Channel.forall_iff {P : Channel → Prop} : (∀ ch, P ch) ↔ P .ch1 ∧ P .ch2 :=
  ⟨fun h => ⟨h .ch1, h .ch2⟩, fun ⟨h1, h2⟩ ch => by cases ch <;> assumption⟩

/-- The shape of the tables with the rows of RELBANDS counted per channel (R145, R150; log entry 18). -/
theorem Config.tablesShaped_iff_forall_channel (cfg : Config) :
    cfg.tablesShaped = true ↔
      (∀ ch, (cfg.relBands.filter fun r => decide (r.ch = ch)).length = 3) ∧ cfg.diffBands.length = 4 := by
  rw [Config.tablesShaped_iff, Channel.forall_iff, and_assoc]

/-- Settles O9: `Config.ok_iff` takes the checks apart, and each check has its clause. -/
theorem configChecksMeanTheirClauses : Obligations.ConfigChecksMeanTheirClauses := by
  intro cfg
  rw [Config.ok_iff, PerTable.decreasing_iff, bandsProper_relBounds_iff, bandsProper_diffBounds_iff,
    bandsApart_relBounds_iff, bandsApart_diffBounds_iff, Config.absInRange_iff, Config.tablesShaped_iff_forall_channel]
  simp only [and_assoc]

end Sys2Proof

namespace Sys2Proof.Machine

/-- What every foreground step leaves alone: the configuration, MODE, CCR, and the model's own `started` and `events`
(R25, R28, R34). -/
structure ForegroundFrame (s t : State) : Prop where
  cfg : t.cfg = s.cfg
  mode : t.mode = s.mode
  ccr : t.ccr = s.ccr
  started : t.started = s.started
  events : t.events = s.events

theorem ForegroundFrame.refl (s : State) : ForegroundFrame s s := ⟨rfl, rfl, rfl, rfl, rfl⟩

theorem ForegroundFrame.trans {s t u : State} (hst : ForegroundFrame s t) (htu : ForegroundFrame t u) :
    ForegroundFrame s u :=
  ⟨htu.cfg.trans hst.cfg, htu.mode.trans hst.mode, htu.ccr.trans hst.ccr, htu.started.trans hst.started,
    htu.events.trans hst.events⟩

theorem goto_foregroundFrame (s : State) (p : Phase) : ForegroundFrame s (s.goto p) := ⟨rfl, rfl, rfl, rfl, rfl⟩

theorem setWix_foregroundFrame (s : State) (n : Nat) : ForegroundFrame s (s.setWix n) := ⟨rfl, rfl, rfl, rfl, rfl⟩

theorem countTick_foregroundFrame (s : State) (k : Nat) : ForegroundFrame s (s.countTick k) := ⟨rfl, rfl, rfl, rfl, rfl⟩

theorem setPend_foregroundFrame (s : State) (ws : List Write) : ForegroundFrame s (s.setPend ws) :=
  ⟨rfl, rfl, rfl, rfl, rfl⟩

theorem useFree_foregroundFrame (s : State) : ForegroundFrame s s.useFree := ⟨rfl, rfl, rfl, rfl, rfl⟩

theorem applyWrite_foregroundFrame (w : Write) (s : State) : ForegroundFrame s (applyWrite w s) := by
  rw [applyWrite_frame]
  exact ⟨rfl, rfl, rfl, rfl, rfl⟩

theorem applyAll_foregroundFrame (ws : List Write) (s : State) : ForegroundFrame s (applyAll ws s) := by
  rw [applyAll_frame]
  exact ⟨rfl, rfl, rfl, rfl, rfl⟩

theorem afterPeriod_foregroundFrame (s : State) : ForegroundFrame s s.afterPeriod := by
  unfold State.afterPeriod
  split
  · exact .refl s
  · exact useFree_foregroundFrame s

theorem pollOnce_foregroundFrame (s : State) : ForegroundFrame s (pollOnce s) := by
  rcases pollOnce_cases s with ⟨_, h⟩ | ⟨_, _, _, h⟩ | ⟨_, _, _, h⟩ | ⟨_, _, _, h⟩ | ⟨_, _, _, h⟩ <;> rw [h]
  case inr.inr.inl => exact (setWix_foregroundFrame s _).trans (goto_foregroundFrame _ _)
  case inr.inr.inr.inl => exact (countTick_foregroundFrame s _).trans (goto_foregroundFrame _ _)
  all_goals exact goto_foregroundFrame s _

theorem deliver_foregroundFrame (ws : List Write) (s : State) : ForegroundFrame s (deliver ws s) := by
  rcases deliver_cases ws s with ⟨_, h⟩ | ⟨_, _, h⟩ | ⟨_, _, h⟩ <;> rw [h]
  · exact (applyAll_foregroundFrame ws s).trans (goto_foregroundFrame _ _)
  · exact goto_foregroundFrame s _
  · exact (setPend_foregroundFrame s ws).trans (goto_foregroundFrame _ _)

theorem commitOnce_foregroundFrame (s : State) : ForegroundFrame s (commitOnce s) := by
  rcases commitOnce_cases s with ⟨w, rest, _, h⟩ | ⟨_, h⟩ <;> rw [h]
  · exact ((applyWrite_foregroundFrame w s).trans (setPend_foregroundFrame _ _)).trans (goto_foregroundFrame _ _)
  · exact (((useFree_foregroundFrame s).trans (applyWrite_foregroundFrame _ _)).trans
      (setPend_foregroundFrame _ _)).trans (goto_foregroundFrame _ _)

/-- At a legal PHASE a TICK goes on, within the foreground's frame (R84, R85). -/
theorem execTick_next_of_phaseLegal {s : State} (hs : s.phaseLegal) :
    ∃ t, execTick s = .next t ∧ ForegroundFrame s t := by
  rcases execTick_cases s with ⟨_, h⟩ | ⟨_, h⟩ | ⟨_, h⟩ | ⟨_, h⟩ | ⟨_, h⟩ | ⟨_, h⟩ | ⟨hreserved, _⟩
  · exact ⟨_, h, rfl, rfl, rfl, rfl, rfl⟩
  · exact ⟨_, h, rfl, rfl, rfl, rfl, rfl⟩
  · exact ⟨_, h, pollOnce_foregroundFrame s⟩
  · exact ⟨_, h, rfl, rfl, rfl, rfl, rfl⟩
  · exact ⟨_, h, (afterPeriod_foregroundFrame s).trans (deliver_foregroundFrame _ _)⟩
  · exact ⟨_, h, commitOnce_foregroundFrame s⟩
  · exact absurd hs (Nat.not_lt.mpr hreserved)

/-- TICK and the decoder of PHASE read the same code, so they run the same operation, the refusal included. -/
theorem exec_tick_eq_exec_decodePhase (s : State) : exec .tick s = exec (decodePhase s.phase) s := by
  change execTick s = _
  unfold execTick decodePhase
  cases phaseOf s.phase with
  | none => rfl
  | some p => cases p <;> rfl

/-- Settles O10: `exec_tick_eq_exec_decodePhase`, and `execTick_next_of_phaseLegal` at a legal PHASE. -/
theorem tickRunsTheCurrentPhase : Obligations.TickRunsTheCurrentPhase := by
  refine ⟨exec_tick_eq_exec_decodePhase, fun s hs => ?_⟩
  obtain ⟨t, ht, frame⟩ := execTick_next_of_phaseLegal hs
  exact ⟨t, ht, (exec_tick_eq_exec_decodePhase s).symm.trans ht, frame.cfg, frame.mode, frame.ccr, frame.events⟩

end Sys2Proof.Machine
end

section
/-! The state family, first part: no producer of write lists writes a reserved command word (R83). -/

namespace Sys2Proof

/-- R82: a word is reserved exactly between the rate words and the pulse widths. -/
theorem classify_eq_rsvd_iff (v : Word) : classify v = .rsvd ↔ 64 ≤ v.toNat ∧ v.toNat ≤ 2000 := by
  have high_bits : v.extractLsb' 6 10 = 0#10 ↔ v.toNat < 64 := by
    rw [← BitVec.toNat_inj, BitVec.extractLsb'_toNat, Nat.shiftRight_eq_div_pow, BitVec.toNat_ofNat]
    omega
  unfold classify regimeThreshold
  split
  case isTrue habs =>
    simp only [reduceCtorEq, false_iff]
    omega
  case isFalse habs =>
    split
    case isTrue hrsvd =>
      rw [ne_eq, high_bits] at hrsvd
      simp only [true_iff]
      omega
    case isFalse hrate =>
      rw [ne_eq, not_not, high_bits] at hrate
      have hno : ¬ (64 ≤ v.toNat ∧ v.toNat ≤ 2000) := by omega
      split
      · simp [hno]
      · split <;> simp [hno]

theorem classify_ne_rsvd_of_lt {v : Word} (h : v.toNat < 64) : classify v ≠ .rsvd := by
  rw [ne_eq, classify_eq_rsvd_iff]
  omega

theorem classify_ne_rsvd_of_gt {v : Word} (h : 2000 < v.toNat) : classify v ≠ .rsvd := by
  rw [ne_eq, classify_eq_rsvd_iff]
  omega

theorem inBand_iff (lo hi : Int) (sum : Nat) : inBand lo hi sum = true ↔ lo < sum ∧ (sum : Int) < hi := by
  simp [inBand]

theorem RelBand.holds_iff (r : RelBand) (sum : Nat) :
    r.holds sum = true ↔ r.lo.toNat < sum ∧ sum < r.hi.toNat := by
  simp [RelBand.holds, inBand_iff]

theorem DiffBand.holds_iff (r : DiffBand) (sum : Nat) :
    r.holds sum = true ↔ r.lo.toNat < sum ∧ sum < r.hi.toNat := by
  simp [DiffBand.holds, inBand_iff]

/-- R147: inside its open band the magnitude of a ramp row fits the five bits of a rate word. -/
theorem RelBand.mag_lt {r : RelBand} {sum : Nat} (h : r.holds sum = true) : r.mag sum < 32 := by
  rw [RelBand.holds_iff] at h
  apply Nat.div_lt_of_lt_mul
  exact Nat.mul_lt_mul_of_pos_right (by omega) (by decide)

/-- R83, R146: a Relative row that is hit gives a rate word. -/
theorem RelBand.value_lt {r : RelBand} {sum : Nat} (h : r.holds sum = true) : r.value sum < 64 := by
  have hmag := RelBand.mag_lt h
  unfold RelBand.value rateSteps
  split <;> omega

/-- R151, R152: inside its open band a Differential row moves less than DIFF_SPAN away from the centre. -/
theorem DiffBand.distance_lt {r : DiffBand} {sum : Nat} (h : r.holds sum = true) : r.distance sum < 4000 := by
  rw [DiffBand.holds_iff] at h
  unfold DiffBand.distance diffSpan
  have hspan : (r.hi.toNat - r.lo.toNat) * (4000 / (r.hi.toNat - r.lo.toNat)) ≤ 4000 := Nat.mul_div_le _ _
  rcases Nat.eq_zero_or_pos (4000 / (r.hi.toNat - r.lo.toNat)) with hzero | hpos
  · simp [hzero]
  · exact lt_of_lt_of_le (Nat.mul_lt_mul_of_pos_right (by omega) hpos) hspan

/-- R151: a value within DIFF_SPAN of the centre is a pulse width, on either side. -/
theorem diffValue_toNat_bounds (sg : Sign) {d : Nat} (h : d < 4000) :
    2001 ≤ (diffValue sg d).toNat ∧ (diffValue sg d).toNat ≤ 9999 := by
  have hcentre : servoCenter.toNat = 6000 := rfl
  have hvalue : ((diffValue sg d).toNat : Int) = servoCenter.toNat + sg.toInt * d := by
    apply narrow_toNat <;> cases sg <;> simp only [Sign.toInt] <;> omega
  cases sg <;> simp only [Sign.toInt] at hvalue <;> omega

/-- R155, R156: inside the Absolute band of a channel the value is a pulse width. -/
theorem absValue_bounds {cfg : Config} {ch : Channel} {sum : Nat} (h : absHolds cfg ch sum = true) :
    2032 ≤ absValue cfg ch sum ∧ absValue cfg ch sum ≤ 9968 := by
  rw [absHolds, inBand_iff] at h
  unfold absValue
  simp only [absBase, absSpan, absWidth] at h ⊢
  omega

theorem narrow_absValue_toNat {cfg : Config} {ch : Channel} {sum : Nat} (h : absHolds cfg ch sum = true) :
    ((narrow (absValue cfg ch sum)).toNat : Int) = absValue cfg ch sum := by
  obtain ⟨hlow, hhigh⟩ := absValue_bounds h
  exact narrow_toNat (by omega) (by omega)

end Sys2Proof

namespace Sys2Proof.Machine

/-- No write of the list carries a reserved command word (R83). -/
def AllLegal (ws : List Write) : Prop := ∀ w ∈ ws, Write.legal w = true

theorem tgtw_legal_iff (ch : Channel) (v : Word) : Write.legal (.tgtw ch v) = true ↔ classify v ≠ .rsvd := by
  simp [Write.legal]

@[simp] theorem ledtrig_legal (ch : Channel) : Write.legal (.ledtrig ch) = true := rfl

@[simp] theorem wdclr_legal : Write.legal .wdclr = true := rfl

theorem allLegal_nil : AllLegal [] := by simp [AllLegal]

theorem allLegal_cons_iff (w : Write) (ws : List Write) : AllLegal (w :: ws) ↔ Write.legal w = true ∧ AllLegal ws :=
  List.forall_mem_cons

theorem AllLegal.append {ws vs : List Write} (hw : AllLegal ws) (hv : AllLegal vs) : AllLegal (ws ++ vs) :=
  List.forall_mem_append.mpr ⟨hw, hv⟩

theorem relWrites_allLegal (bands : List RelBand) (ch : Channel) (sum : Nat) : AllLegal (relWrites bands ch sum) := by
  unfold relWrites
  split
  case h_1 hnone =>
    rw [allLegal_cons_iff, tgtw_legal_iff]
    exact ⟨by decide, allLegal_nil⟩
  case h_2 r hrow =>
    have hhit := List.find?_some hrow
    rw [Bool.and_eq_true] at hhit
    obtain ⟨hch, hholds⟩ := hhit
    have hvalue := RelBand.value_lt hholds
    simp only [allLegal_cons_iff, tgtw_legal_iff, ledtrig_legal, true_and]
    refine ⟨classify_ne_rsvd_of_lt ?_, allLegal_nil⟩
    rwa [narrow_natCast_toNat (by omega)]

theorem mapRel_allLegal (cfg : Config) (sum : Nat) : AllLegal (mapRel cfg sum) := by
  rw [mapRel, allLegal_cons_iff]
  exact ⟨rfl, (relWrites_allLegal _ _ _).append (relWrites_allLegal _ _ _)⟩

theorem diffValue_legal (ch : Channel) (sg : Sign) {d : Nat} (h : d < 4000) :
    Write.legal (.tgtw ch (diffValue sg d)) = true :=
  (tgtw_legal_iff _ _).mpr (classify_ne_rsvd_of_gt (diffValue_toNat_bounds sg h).1)

theorem mapDiff_allLegal (cfg : Config) (sum : Nat) : AllLegal (mapDiff cfg sum) := by
  unfold mapDiff
  split
  case h_1 hnone => exact allLegal_nil
  case h_2 r hrow =>
    have hhit := List.find?_some hrow
    have hdistance := DiffBand.distance_lt hhit
    simp only [allLegal_cons_iff, wdclr_legal, diffValue_legal _ _ hdistance, allLegal_nil, and_self]

theorem absWrites_allLegal (cfg : Config) (tgt : PerChannel Word) (ch : Channel) (sum : Nat) :
    AllLegal (absWrites cfg tgt ch sum) := by
  unfold absWrites
  split
  case isTrue hhit =>
    rw [Bool.and_eq_true] at hhit
    obtain ⟨hholds, hbeyond⟩ := hhit
    have hbounds := absValue_bounds hholds
    have hvalue := narrow_absValue_toNat hholds
    simp only [allLegal_cons_iff, tgtw_legal_iff, ledtrig_legal, true_and]
    exact ⟨classify_ne_rsvd_of_gt (by omega), allLegal_nil⟩
  case isFalse => exact allLegal_nil

theorem AllLegal.clearFirst {ws : List Write} (h : AllLegal ws) : AllLegal (clearFirst ws) := by
  cases ws with
  | nil => exact allLegal_nil
  | cons w rest => exact (allLegal_cons_iff _ _).mpr ⟨rfl, h⟩

theorem mapAbs_allLegal (cfg : Config) (tgt : PerChannel Word) (sum : Nat) : AllLegal (mapAbs cfg tgt sum) :=
  ((absWrites_allLegal _ _ _ _).append (absWrites_allLegal _ _ _ _)).clearFirst

/-- R83: in every mode, under every configuration and at every period, INTERPRET's list holds no reserved word. -/
theorem writeList_allLegal (cfg : Config) (mode : OpMode) (tgt : PerChannel Word) (sum : Nat) :
    AllLegal (writeList cfg mode tgt sum) := by
  cases mode with
  | absolute => exact mapAbs_allLegal cfg tgt sum
  | relative => exact mapRel_allLegal cfg sum
  | differential => exact mapDiff_allLegal cfg sum

end Sys2Proof.Machine
end

section
/-! The state family, second part: what an operation that goes on did, said once, and who writes which register (R34, R35). -/

namespace Sys2Proof

/-- The operation of a legal phase (R84). -/
def Phase.instr : Phase → Instr
  | .cycStart => .cycStart
  | .waitEnter => .waitEnter
  | .waitPoll => .waitPoll
  | .validate => .validate
  | .interpret => .interpret
  | .commit => .commit

/-- The command words that compute a compare value (R183 to R185). -/
def Instr.MovesCompare (i : Instr) : Prop :=
  (∃ ch v, i = .abs ch v) ∨ (∃ ch m, i = .inc ch m) ∨ (∃ ch m, i = .dec ch m)

/-- The two command words under which the compare value holds (R186, R187). -/
def Instr.HoldsCompare (i : Instr) : Prop := (∃ ch, i = .stop ch) ∨ (∃ ch v, i = .rsvd ch v)

end Sys2Proof

namespace Sys2Proof.Machine

/-- The state after the foreground step of a phase (R100 to R142); `exec_phase_instr` ties it to the model. -/
def State.phaseStep (s : State) : Phase → State
  | .cycStart => ((((s.setCounters Counters.zero).setIntr false).setOut .invalid).setWix 0).goto .waitEnter
  | .waitEnter => (s.setEdgef false).goto .waitPoll
  | .waitPoll => pollOnce s
  | .validate => (s.setOut (consensus s.c)).goto (consensus s.c).nextPhase
  | .interpret => deliver (writeList s.cfg s.mode s.tgt s.period.toNat) s.afterPeriod
  | .commit => commitOnce s

theorem exec_phase_instr (s : State) (p : Phase) : exec p.instr s = .next (s.phaseStep p) := by
  cases p <;> rfl

theorem exec_tick_of_phase {s : State} {p : Phase} (h : s.phase = p.code) : exec .tick s = exec p.instr s := by
  rw [exec_tick_eq_exec_decodePhase, h]
  cases p <;> rfl

/-- A TICK that goes on found a legal code in PHASE (R84, R211). -/
theorem exec_tick_next {s t : State} (h : exec .tick s = .next t) :
    ∃ p : Phase, s.phase = p.code ∧ t = s.phaseStep p := by
  have hphase : ∃ p : Phase, s.phase = p.code := by
    rcases execTick_cases s with ⟨hp, _⟩ | ⟨hp, _⟩ | ⟨hp, _⟩ | ⟨hp, _⟩ | ⟨hp, _⟩ | ⟨hp, _⟩ | ⟨_, hrefused⟩
    · exact ⟨.cycStart, hp⟩
    · exact ⟨.waitEnter, hp⟩
    · exact ⟨.waitPoll, hp⟩
    · exact ⟨.validate, hp⟩
    · exact ⟨.interpret, hp⟩
    · exact ⟨.commit, hp⟩
    · exact nomatch hrefused.symm.trans h
  obtain ⟨p, hp⟩ := hphase
  rw [exec_tick_of_phase hp, exec_phase_instr] at h
  exact ⟨p, hp, (Host.Outcome.next.inj h).symm⟩

theorem exec_reset_of_unmapped {s : State} {p : BitVec 2} (h : s.cfg.modeMap.lookup p = none) :
    exec (.reset p) s = .refused .modePinsUnmapped := by
  change execReset p s = _
  simp [execReset, h]

theorem exec_reset_of_mapped {s : State} {p : BitVec 2} {m : OpMode} (h : s.cfg.modeMap.lookup p = some m) :
    exec (.reset p) s = .next (s.resetRegs m) := by
  change execReset p s = _
  simp [execReset, h]

/-- A RESET that goes on read a mode from its pins (R240). -/
theorem exec_reset_next {s t : State} {p : BitVec 2} (h : exec (.reset p) s = .next t) :
    ∃ m, s.cfg.modeMap.lookup p = some m ∧ t = s.resetRegs m := by
  cases hm : s.cfg.modeMap.lookup p with
  | none => exact nomatch (exec_reset_of_unmapped hm).symm.trans h
  | some m =>
    rw [exec_reset_of_mapped hm] at h
    exact ⟨m, rfl, (Host.Outcome.next.inj h).symm⟩

/-- The operation runs the foreground step of the phase: it is the phase's own, or a TICK at that PHASE (R85). -/
def RunsPhase (i : Instr) (s : State) (p : Phase) : Prop := i = p.instr ∨ (i = .tick ∧ s.phase = p.code)

/-- Everything that an operation which goes on can have done. -/
inductive Effect (s : State) : Instr → State → Prop where
  | foreground {i : Instr} (p : Phase) (run : RunsPhase i s p) : Effect s i (s.phaseStep p)
  | move {i : Instr} (ch : Channel) (v : Word) (moves : i.MovesCompare) : Effect s i (s.setCcr ch v)
  | hold {i : Instr} (holds : i.HoldsCompare) : Effect s i s
  | edge : Effect s .edge (s.setEdgef true)
  | rollover : Effect s .rollover (rolloverHandler s)
  | reset (p : BitVec 2) (m : OpMode) (mapped : s.cfg.modeMap.lookup p = some m) : Effect s (.reset p) (s.resetRegs m)

theorem effect_of_phase_instr {s t : State} {p : Phase} (h : exec p.instr s = .next t) : Effect s p.instr t := by
  rw [exec_phase_instr] at h
  cases h
  exact .foreground p (.inl rfl)

/-- The inversion of `exec`: an operation that answers a next state had one of these effects. -/
theorem exec_effect {i : Instr} {s t : State} (h : exec i s = .next t) : Effect s i t := by
  cases i with
  | abs ch v =>
    cases h
    exact .move ch v (.inl ⟨ch, v, rfl⟩)
  | inc ch m =>
    cases h
    exact .move ch _ (.inr (.inl ⟨ch, m, rfl⟩))
  | dec ch m =>
    cases h
    exact .move ch _ (.inr (.inr ⟨ch, m, rfl⟩))
  | stop ch =>
    cases h
    rw [stopEffect, State.setCcr, PerChannel.set_get_self]
    exact .hold (.inl ⟨ch, rfl⟩)
  | rsvd ch v =>
    cases h
    rw [rsvdEffect, State.setCcr, PerChannel.set_get_self]
    exact .hold (.inr ⟨ch, v, rfl⟩)
  | cycStart => exact effect_of_phase_instr (p := .cycStart) h
  | waitEnter => exact effect_of_phase_instr (p := .waitEnter) h
  | waitPoll => exact effect_of_phase_instr (p := .waitPoll) h
  | validate => exact effect_of_phase_instr (p := .validate) h
  | interpret => exact effect_of_phase_instr (p := .interpret) h
  | commit => exact effect_of_phase_instr (p := .commit) h
  | tick =>
    obtain ⟨p, hp, rfl⟩ := exec_tick_next h
    exact .foreground p (.inr ⟨rfl, hp⟩)
  | edge =>
    cases h
    exact .edge
  | rollover =>
    cases h
    exact .rollover
  | reset p =>
    obtain ⟨m, hm, rfl⟩ := exec_reset_next h
    exact .reset p m hm
  | phaseReserved x => exact nomatch h
  | eventMalformed e => exact nomatch h

/-- Every phase's step keeps the foreground's frame (R25, R28, R34). -/
theorem phaseStep_foregroundFrame (s : State) (p : Phase) : ForegroundFrame s (s.phaseStep p) := by
  cases p with
  | cycStart => exact ⟨rfl, rfl, rfl, rfl, rfl⟩
  | waitEnter => exact ⟨rfl, rfl, rfl, rfl, rfl⟩
  | waitPoll => exact pollOnce_foregroundFrame s
  | validate => exact ⟨rfl, rfl, rfl, rfl, rfl⟩
  | interpret => exact (afterPeriod_foregroundFrame s).trans (deliver_foregroundFrame _ _)
  | commit => exact commitOnce_foregroundFrame s

/-- The poll moves PHASE, WIX and the counters and nothing else (R104). -/
theorem pollOnce_frame (s : State) :
    pollOnce s = { s with phase := (pollOnce s).phase, wix := (pollOnce s).wix, c := (pollOnce s).c } := by
  rcases pollOnce_cases s with ⟨_, h⟩ | ⟨_, _, _, h⟩ | ⟨_, _, _, h⟩ | ⟨_, _, _, h⟩ | ⟨_, _, _, h⟩ <;> rw [h] <;> rfl

/-- The writes of a commit reach neither flag (R31, R32, R141). -/
theorem applyAll_flags (ws : List Write) (s : State) :
    (applyAll ws s).edgef = s.edgef ∧ (applyAll ws s).intr = s.intr := by
  rw [applyAll_frame]
  exact ⟨rfl, rfl⟩

theorem applyWrite_flags (w : Write) (s : State) :
    (applyWrite w s).edgef = s.edgef ∧ (applyWrite w s).intr = s.intr :=
  applyAll_flags [w] s

theorem deliver_flags (ws : List Write) (s : State) :
    (deliver ws s).edgef = s.edgef ∧ (deliver ws s).intr = s.intr := by
  rcases deliver_cases ws s with ⟨_, h⟩ | ⟨_, _, h⟩ | ⟨_, _, h⟩ <;> rw [h]
  · exact applyAll_flags ws s
  · exact ⟨rfl, rfl⟩
  · exact ⟨rfl, rfl⟩

theorem commitOnce_flags (s : State) : (commitOnce s).edgef = s.edgef ∧ (commitOnce s).intr = s.intr := by
  rcases commitOnce_cases s with ⟨w, rest, _, h⟩ | ⟨_, h⟩ <;> rw [h]
  · exact applyWrite_flags w s
  · exact applyWrite_flags _ s.useFree

theorem afterPeriod_flags (s : State) : s.afterPeriod.edgef = s.edgef ∧ s.afterPeriod.intr = s.intr := by
  unfold State.afterPeriod
  split <;> exact ⟨rfl, rfl⟩

/-- R31: of the foreground steps only WAIT_ENTER writes EDGEF. -/
theorem phaseStep_edgef (s : State) {p : Phase} (hp : p ≠ .waitEnter) : (s.phaseStep p).edgef = s.edgef := by
  cases p with
  | cycStart => rfl
  | waitEnter => exact absurd rfl hp
  | waitPoll => exact (congrArg State.edgef (pollOnce_frame s) :)
  | validate => rfl
  | interpret => exact (deliver_flags _ _).1.trans (afterPeriod_flags s).1
  | commit => exact (commitOnce_flags s).1

/-- R32: of the foreground steps only CYC_START writes INTR. -/
theorem phaseStep_intr (s : State) {p : Phase} (hp : p ≠ .cycStart) : (s.phaseStep p).intr = s.intr := by
  cases p with
  | cycStart => exact absurd rfl hp
  | waitEnter => rfl
  | waitPoll => exact (congrArg State.intr (pollOnce_frame s) :)
  | validate => rfl
  | interpret => exact (deliver_flags _ _).2.trans (afterPeriod_flags s).2
  | commit => exact (commitOnce_flags s).2

/-- R27: of the foreground steps only INTERPRET and COMMIT write TGT. -/
theorem phaseStep_tgt (s : State) {p : Phase} (hi : p ≠ .interpret) (hc : p ≠ .commit) :
    (s.phaseStep p).tgt = s.tgt := by
  cases p with
  | cycStart => rfl
  | waitEnter => rfl
  | waitPoll => exact (congrArg State.tgt (pollOnce_frame s) :)
  | validate => rfl
  | interpret => exact absurd rfl hi
  | commit => exact absurd rfl hc

theorem rolloverHandler_cfg (s : State) : (rolloverHandler s).cfg = s.cfg := by
  obtain ⟨tgt, ccr, wd, lt, led, h⟩ := rolloverHandler_frame s
  rw [h]

theorem rolloverHandler_mode (s : State) : (rolloverHandler s).mode = s.mode := by
  obtain ⟨tgt, ccr, wd, lt, led, h⟩ := rolloverHandler_frame s
  rw [h]

theorem rolloverHandler_edgef (s : State) : (rolloverHandler s).edgef = s.edgef := by
  obtain ⟨tgt, ccr, wd, lt, led, h⟩ := rolloverHandler_frame s
  rw [h]

theorem rolloverHandler_intr (s : State) : (rolloverHandler s).intr = true := by
  obtain ⟨tgt, ccr, wd, lt, led, h⟩ := rolloverHandler_frame s
  rw [h]

@[simp] theorem ledTick_tgt (s : State) (ch : Channel) : (s.ledTick ch).tgt = s.tgt := by
  rw [ledTick_frame]

@[simp] theorem channelUpdate_tgt (ch : Channel) (s : State) : (channelUpdate ch s).tgt = s.tgt := by
  rw [channelUpdate_frame]
  rfl

/-- The handler's targets are those of its first part: the LED and watchdog ticks leave them alone (R180). -/
theorem rolloverHandler_tgt (s : State) : (rolloverHandler s).tgt = (moveChannels s.enterRollover).tgt := by
  change (((moveChannels s.enterRollover).watchdogTick.ledTick .ch1).ledTick .ch2).tgt = _
  rw [ledTick_tgt, ledTick_tgt]
  rfl

/-- R182, R189: outside Differential mode the handler does not recenter, so it writes no target. -/
theorem rolloverHandler_tgt_of_not_differential {s : State} (hm : s.mode ≠ .differential) :
    (rolloverHandler s).tgt = s.tgt := by
  have hstay : s.enterRollover.mustRecenter = false := by
    change (s.watchdogSaturated && decide (s.mode = .differential)) = false
    rw [decide_eq_false hm, Bool.and_false]
  rw [rolloverHandler_tgt]
  rcases moveChannels_cases s.enterRollover with ⟨hmust, _⟩ | ⟨_, hmove⟩
  · exact absurd (hstay.symm.trans hmust) Bool.false_ne_true
  · rw [hmove, channelUpdate_tgt, channelUpdate_tgt]
    rfl

/-- Settles O52: every effect keeps the configuration, and RESET alone writes MODE. -/
theorem modeAndConfigurationAreFixed : Obligations.ModeAndConfigurationAreFixed := by
  intro i s t h
  cases exec_effect h with
  | foreground p run =>
    have frame := phaseStep_foregroundFrame s p
    exact ⟨frame.cfg, fun _ => frame.mode⟩
  | move ch v moves => exact ⟨rfl, fun _ => rfl⟩
  | hold holds => exact ⟨rfl, fun _ => rfl⟩
  | edge => exact ⟨rfl, fun _ => rfl⟩
  | rollover => exact ⟨rolloverHandler_cfg s, fun _ => rolloverHandler_mode s⟩
  | reset p m mapped => exact ⟨rfl, fun hreset => absurd rfl (hreset p)⟩

/-- Settles O53: the foreground's frame holds CCR, and so do EDGE, STOP and RSVD. -/
theorem onlyTheHandlerWritesCompare : Obligations.OnlyTheHandlerWritesCompare := by
  intro i s t h hccr
  cases exec_effect h with
  | foreground p run => exact absurd (phaseStep_foregroundFrame s p).ccr hccr
  | move ch v moves => exact .inr (.inr moves)
  | hold holds => exact absurd rfl hccr
  | edge => exact absurd rfl hccr
  | rollover => exact .inl rfl
  | reset p m mapped => exact .inr (.inl ⟨p, rfl⟩)

/-- Settles O54: of the foreground steps two write TGT, and outside Differential mode a rollover does not. -/
theorem onlyCommitsWriteTargetsOutsideDifferential : Obligations.OnlyCommitsWriteTargetsOutsideDifferential := by
  intro i s t h hmode htgt
  cases exec_effect h with
  | foreground p run =>
    by_cases hi : p = .interpret
    · subst hi
      rcases run with rfl | ⟨rfl, hphase⟩
      · exact .inl rfl
      · exact .inr (.inr (.inr ⟨rfl, .inl hphase⟩))
    by_cases hc : p = .commit
    · subst hc
      rcases run with rfl | ⟨rfl, hphase⟩
      · exact .inr (.inl rfl)
      · exact .inr (.inr (.inr ⟨rfl, .inr hphase⟩))
    exact absurd (phaseStep_tgt s hi hc) htgt
  | move ch v moves => exact absurd rfl htgt
  | hold holds => exact absurd rfl htgt
  | edge => exact absurd rfl htgt
  | rollover => exact absurd (rolloverHandler_tgt_of_not_differential hmode) htgt
  | reset p m mapped => exact .inr (.inr (.inl ⟨p, rfl⟩))

/-- R31: EDGEF is kept, or set by EDGE, or cleared by WAIT_ENTER or a RESET. -/
theorem exec_edgef_cases {i : Instr} {s t : State} (h : exec i s = .next t) :
    t.edgef = s.edgef ∨ (t.edgef = true ∧ i = .edge) ∨
      (t.edgef = false ∧ (RunsPhase i s .waitEnter ∨ ∃ p, i = .reset p)) := by
  cases exec_effect h with
  | foreground p run =>
    by_cases hp : p = .waitEnter
    · subst hp
      exact .inr (.inr ⟨rfl, .inl run⟩)
    · exact .inl (phaseStep_edgef s hp)
  | move ch v moves => exact .inl rfl
  | hold holds => exact .inl rfl
  | edge => exact .inr (.inl ⟨rfl, rfl⟩)
  | rollover => exact .inl (rolloverHandler_edgef s)
  | reset p m mapped => exact .inr (.inr ⟨rfl, .inr ⟨p, rfl⟩⟩)

/-- R32: INTR is kept, or set by ROLLOVER, or cleared by CYC_START or a RESET. -/
theorem exec_intr_cases {i : Instr} {s t : State} (h : exec i s = .next t) :
    t.intr = s.intr ∨ (t.intr = true ∧ i = .rollover) ∨
      (t.intr = false ∧ (RunsPhase i s .cycStart ∨ ∃ p, i = .reset p)) := by
  cases exec_effect h with
  | foreground p run =>
    by_cases hp : p = .cycStart
    · subst hp
      exact .inr (.inr ⟨rfl, .inl run⟩)
    · exact .inl (phaseStep_intr s hp)
  | move ch v moves => exact .inl rfl
  | hold holds => exact .inl rfl
  | edge => exact .inl rfl
  | rollover => exact .inr (.inl ⟨rolloverHandler_intr s, rfl⟩)
  | reset p m mapped => exact .inr (.inr ⟨rfl, .inr ⟨p, rfl⟩⟩)

/-- A flag that went up was set, and one that went down was cleared. -/
theorem flag_transition {b b' : Bool} {Sets Clears : Prop} (h : b' = b ∨ (b' = true ∧ Sets) ∨ (b' = false ∧ Clears)) :
    (b = false → b' = true → Sets) ∧ (b = true → b' = false → Clears) := by
  rcases h with rfl | ⟨rfl, hset⟩ | ⟨rfl, hclear⟩
  · exact ⟨fun hlow hhigh => absurd (hlow.symm.trans hhigh) Bool.false_ne_true,
      fun hhigh hlow => absurd (hlow.symm.trans hhigh) Bool.false_ne_true⟩
  · exact ⟨fun _ _ => hset, fun _ hlow => absurd hlow.symm Bool.false_ne_true⟩
  · exact ⟨fun _ hhigh => absurd hhigh Bool.false_ne_true, fun _ _ => hclear⟩

/-- Settles O55: each flag's transitions, from `exec_edgef_cases` and `exec_intr_cases`. -/
theorem flagsHaveOneSetterAndOneClearer : Obligations.FlagsHaveOneSetterAndOneClearer := by
  intro i s t h
  obtain ⟨edgeSet, edgeCleared⟩ := flag_transition (exec_edgef_cases h)
  obtain ⟨intrSet, intrCleared⟩ := flag_transition (exec_intr_cases h)
  exact ⟨edgeSet, fun hhigh hlow => or_assoc.mp (edgeCleared hhigh hlow),
    intrSet, fun hhigh hlow => or_assoc.mp (intrCleared hhigh hlow)⟩

/-- Settles O49: the two answers of a RESET; `State.resetRegs` is the register table. -/
theorem resetGivesTheRegisterTable : Obligations.ResetGivesTheRegisterTable :=
  ⟨fun _ _ hunmapped => exec_reset_of_unmapped hunmapped, fun _ _ _ hmapped => exec_reset_of_mapped hmapped⟩

/-- The reset state under a SERVO_MIN above SERVO_CENTER, as R12 allows: CCR starts below the range of R37(c). -/
def belowServoMin : State := { State.reset with cfg := { Config.test with servoMin := 6002#16 } }

/-- Refutes O37: an INC by 1 takes CCR[1] from 6000 to 6001, and SERVO_MIN is 6002 (log entry 10). -/
theorem not_rateUpdateAlwaysLandsInRange : ¬ Obligations.RateUpdateAlwaysLandsInRange := by
  intro h
  have hok : belowServoMin.cfg.ok = true := by decide
  have hinc : exec (.inc .ch1 1#5) belowServoMin = .next (belowServoMin.setCcr .ch1 6001#16) := rfl
  obtain ⟨hmin, _⟩ := h belowServoMin _ .ch1 1#5 hok (.inl hinc)
  exact absurd hmin (by decide)

end Sys2Proof.Machine
end

section
/-! The state family, third part: runs of placed words, and the edges that merge or are lost (R31, R106). -/

namespace Sys2Proof.Machine

/-- A running state steps by the word that is listed first (R67, R85). -/
theorem step_listed {s : State} {e : BitVec 4} {es : List (BitVec 4)} (hok : s.cfg.ok = true)
    (hstarted : s.started = true) (hevents : s.events = e :: es) :
    step s = exec (decodeEvent e) (s.setEvents es) := by
  rcases fetch_cases s with ⟨hbad, _⟩ | ⟨_, hfresh, _, _⟩ | ⟨_, _, hrun⟩
  · exact absurd (hbad.symm.trans hok) Bool.false_ne_true
  · exact absurd (hfresh.symm.trans hstarted) Bool.false_ne_true
  · rw [step_of_run hrun, State.nextEvent_cons hevents, State.afterEvent_cons hevents]

@[simp] theorem runWords_nil (s : State) : runWords [] s = .next s := rfl

/-- The first word of a run, when its operation takes the listed words along: the run goes on from the state it gives. -/
theorem runWords_cons {s t : State} {e : BitVec 4} {ws : List (BitVec 4)} (hok : s.cfg.ok = true)
    (hstarted : s.started = true)
    (h : exec (decodeEvent e) (s.setEvents (ws ++ s.events)) = .next (t.setEvents (ws ++ t.events))) :
    runWords (e :: ws) s = runWords ws t := by
  change runSteps (ws.length + 1) (s.setEvents (e :: (ws ++ s.events))) = _
  have hstep : step (s.setEvents (e :: (ws ++ s.events))) = .next (t.setEvents (ws ++ t.events)) :=
    (step_listed (s := s.setEvents (e :: (ws ++ s.events))) hok hstarted rfl).trans h
  rw [runSteps_succ, hstep, andThen_next, runWords]

/-- A run over one more EDGE starts with EDGEF set (R214). -/
theorem runWords_edge {s : State} (ws : List (BitVec 4)) (hok : s.cfg.ok = true) (hstarted : s.started = true) :
    runWords (edgeWord :: ws) s = runWords ws (s.setEdgef true) :=
  runWords_cons hok hstarted rfl

/-- A run over one more TICK at WAIT_ENTER starts at WAIT_POLL with EDGEF cleared (R103). -/
theorem runWords_tick_of_waitEnter {s : State} (ws : List (BitVec 4)) (hok : s.cfg.ok = true)
    (hstarted : s.started = true) (hphase : s.phase = Phase.code .waitEnter) :
    runWords (tickWord :: ws) s = runWords ws (s.phaseStep .waitEnter) := by
  apply runWords_cons hok hstarted
  have htick : exec .tick (s.setEvents (ws ++ s.events)) = exec .waitEnter (s.setEvents (ws ++ s.events)) :=
    exec_tick_of_phase (p := .waitEnter) hphase
  exact htick

/-- Settles O46: EDGE is idempotent, and WAIT_ENTER overwrites what an EDGE wrote. -/
theorem edgesMergeAndAreLost : Obligations.EdgesMergeAndAreLost := by
  intro s hok hstarted
  refine ⟨⟨s.setEdgef true, ?_, runWords_edge [] hok hstarted, rfl⟩,
    fun hphase => ⟨s.phaseStep .waitEnter, ?_, runWords_tick_of_waitEnter [] hok hstarted hphase, rfl, rfl⟩⟩
  · have hmerge : (s.setEdgef true).setEdgef true = s.setEdgef true := rfl
    rw [runWords_edge _ hok hstarted, runWords_edge (s := s.setEdgef true) _ hok hstarted, hmerge, runWords_nil]
  · have herase : (s.setEdgef true).phaseStep .waitEnter = s.phaseStep .waitEnter := rfl
    rw [runWords_edge _ hok hstarted, runWords_tick_of_waitEnter (s := s.setEdgef true) _ hok hstarted hphase,
      herase, runWords_nil]

end Sys2Proof.Machine
end

section
/-! The state family, fourth part: the invariant, as bounds on the registers and as what each PHASE is ready for, and every
step keeps it (R22, R29, R33, R37, R83, R140). -/

namespace Sys2Proof

@[simp] theorem Phase.code_inj_iff (p q : Phase) : p.code = q.code ↔ p = q := by
  cases p <;> cases q <;> decide

theorem Phase.code_toNat_lt (p : Phase) : p.code.toNat < 6 := by
  cases p <;> decide

theorem Phase.exists_code_of_lt {c : BitVec 3} (h : c.toNat < 6) : ∃ p : Phase, c = p.code := by
  have legal : ∀ c : BitVec 3, c.toNat < 6 →
      c = Phase.code .cycStart ∨ c = Phase.code .waitEnter ∨ c = Phase.code .waitPoll ∨
      c = Phase.code .validate ∨ c = Phase.code .interpret ∨ c = Phase.code .commit := by decide
  rcases legal c h with h | h | h | h | h | h <;> exact ⟨_, h⟩

end Sys2Proof

namespace Sys2Proof.Machine

/-- The bounds of the invariant that do not turn on PHASE (R22, R29, R37, R83). -/
structure State.RegistersSound (s : State) : Prop where
  started : s.started = true
  wd : s.wdBounded
  lt : ∀ ch, (s.lt.get ch).toNat ≤ 15
  wix : s.wixBounded
  tgt : ∀ ch, classify (s.tgt.get ch) ≠ .rsvd

/-- R37(e): every counter C[k] with WIX + n ≤ SETTLE_WAITS + k is still 0. -/
def State.ZeroFrom (s : State) (n : Nat) : Prop :=
  ∀ k ∈ [1, 2, 3, 4, 5], s.wix + n ≤ s.cfg.settleWaits + k → s.c.get k = 0#16

/-- What the invariant asks of a state whose next foreground step is that of the phase (R33, R37(e), R83, R140). -/
def State.ReadyFor (s : State) : Phase → Prop
  | .cycStart => s.pend = []
  | .waitEnter => s.pend = [] ∧ s.ZeroFrom 1
  | .waitPoll => s.pend = [] ∧ s.ZeroFrom 2
  | .validate => s.pend = []
  | .interpret => s.pend = [] ∧ s.out ≠ .invalid
  | .commit => s.pend ≠ [] ∧ s.cfg.atomicCommit = false ∧ s.out ≠ .invalid ∧ AllLegal s.pend

/-- The state stands at a legal PHASE and is ready for its step. -/
def State.Ready (s : State) : Prop := ∃ p : Phase, s.phase = p.code ∧ s.ReadyFor p

/-- The invariant in its two parts; `inv_iff` says it is the invariant of the spec. -/
def State.Sound (s : State) : Prop := s.RegistersSound ∧ s.Ready

theorem pendShaped_iff {s : State} {p : Phase} (h : s.phase = p.code) :
    s.pendShaped ↔ (p = .commit ↔ s.pend ≠ []) ∧ (s.pend ≠ [] → s.cfg.atomicCommit = false) := by
  rw [← Phase.code_inj_iff p .commit, ← h]
  rfl

theorem outReady_iff {s : State} {p : Phase} (h : s.phase = p.code) :
    s.outReady ↔ (p = .interpret ∨ p = .commit → s.out ≠ .invalid) := by
  rw [← Phase.code_inj_iff p .interpret, ← Phase.code_inj_iff p .commit, ← h]
  rfl

theorem countersAhead_iff {s : State} {p : Phase} (h : s.phase = p.code) :
    s.countersAhead ↔ (p = .waitEnter → s.ZeroFrom 1) ∧ (p = .waitPoll → s.ZeroFrom 2) := by
  rw [← Phase.code_inj_iff p .waitEnter, ← Phase.code_inj_iff p .waitPoll, ← h]
  exact ⟨fun hc => ⟨fun hp k hk => (hc k hk).1 hp, fun hp k hk => (hc k hk).2 hp⟩,
    fun ⟨henter, hpoll⟩ k hk => ⟨fun hp => henter hp k hk, fun hp => hpoll hp k hk⟩⟩

/-- The clauses of the invariant that turn on PHASE, at one phase. -/
theorem readyFor_iff {s : State} {p : Phase} (h : s.phase = p.code) :
    s.ReadyFor p ↔ s.pendShaped ∧ s.outReady ∧ s.countersAhead ∧ AllLegal s.pend := by
  rw [pendShaped_iff h, outReady_iff h, countersAhead_iff h]
  by_cases hpend : s.pend = [] <;> cases p <;> simp [State.ReadyFor, hpend, allLegal_nil]

theorem inv_iff (s : State) : s.Inv ↔ s.Sound := by
  constructor
  · rintro ⟨hstarted, hwd, ⟨hlt1, hlt2⟩, hphase, hwix, hpend, hout, hcounters, htgt1, htgt2, hlegal⟩
    obtain ⟨p, hp⟩ := Phase.exists_code_of_lt hphase
    exact ⟨⟨hstarted, hwd, Channel.forall_iff.mpr ⟨hlt1, hlt2⟩, hwix, Channel.forall_iff.mpr ⟨htgt1, htgt2⟩⟩,
      p, hp, (readyFor_iff hp).mpr ⟨hpend, hout, hcounters, hlegal⟩⟩
  · rintro ⟨⟨hstarted, hwd, hlt, hwix, htgt⟩, p, hp, hready⟩
    obtain ⟨hpend, hout, hcounters, hlegal⟩ := (readyFor_iff hp).mp hready
    have hphase : s.phaseLegal := by
      rw [State.phaseLegal, hp]
      exact Phase.code_toNat_lt p
    exact ⟨hstarted, hwd, ⟨hlt .ch1, hlt .ch2⟩, hphase, hwix, hpend, hout, hcounters, htgt .ch1, htgt .ch2, hlegal⟩

/-- The register bounds are about these six fields. -/
theorem State.RegistersSound.congr {s t : State} (hs : s.RegistersSound) (hcfg : t.cfg = s.cfg)
    (hstarted : t.started = s.started) (hwd : t.wd = s.wd) (hlt : t.lt = s.lt) (hwix : t.wix = s.wix)
    (htgt : t.tgt = s.tgt) : t.RegistersSound := by
  refine ⟨hstarted.trans hs.started, ?_, ?_, ?_, ?_⟩
  · rw [State.wdBounded, hwd, hcfg]
    exact hs.wd
  · rw [hlt]
    exact hs.lt
  · rw [State.wixBounded, hwix, hcfg]
    exact hs.wix
  · rw [htgt]
    exact hs.tgt

/-- Readiness is about PHASE and these five fields. -/
theorem State.Ready.congr {s t : State} (hs : s.Ready) (hcfg : t.cfg = s.cfg) (hphase : t.phase = s.phase)
    (hwix : t.wix = s.wix) (hc : t.c = s.c) (hout : t.out = s.out) (hpend : t.pend = s.pend) : t.Ready := by
  obtain ⟨p, hp, hready⟩ := hs
  refine ⟨p, hphase.trans hp, ?_⟩
  cases p <;> simpa only [State.ReadyFor, State.ZeroFrom, hcfg, hwix, hc, hout, hpend] using hready

/-- A state sent to a phase that it is ready for is ready. -/
theorem State.ReadyFor.goto {s : State} {p : Phase} (h : s.ReadyFor p) : (s.goto p).Ready :=
  ⟨p, rfl, by cases p <;> exact h⟩

theorem State.RegistersSound.goto {s : State} (h : s.RegistersSound) (p : Phase) : (s.goto p).RegistersSound :=
  h.congr rfl rfl rfl rfl rfl rfl

theorem State.RegistersSound.setWix {s : State} (h : s.RegistersSound) {n : Nat} (hn : n < s.cfg.settleWaits + 5) :
    (s.setWix n).RegistersSound :=
  ⟨h.started, h.wd, h.lt, hn, h.tgt⟩

theorem State.RegistersSound.setWd {s : State} (h : s.RegistersSound) {v : Word}
    (hv : v.toNat ≤ s.cfg.servoTimeout.toNat) : (s.setWd v).RegistersSound :=
  ⟨h.started, hv, h.lt, h.wix, h.tgt⟩

/-- A property of both registers of a pair survives the write of a value that has it. -/
theorem forall_get_set {α : Type} {P : α → Prop} {r : PerChannel α} (h : ∀ ch, P (r.get ch)) (ch : Channel) {v : α}
    (hv : P v) : ∀ o, P ((r.set ch v).get o) := by
  intro o
  by_cases ho : o = ch
  · rw [ho, PerChannel.get_set_same]
    exact hv
  · rw [PerChannel.get_set_other r ho]
    exact h o

theorem State.RegistersSound.setLt {s : State} (h : s.RegistersSound) (ch : Channel) {v : Word} (hv : v.toNat ≤ 15) :
    (s.setLt ch v).RegistersSound :=
  ⟨h.started, h.wd, forall_get_set (P := fun w : Word => w.toNat ≤ 15) h.lt ch hv, h.wix, h.tgt⟩

theorem State.RegistersSound.setTgt {s : State} (h : s.RegistersSound) (ch : Channel) {v : Word}
    (hv : classify v ≠ .rsvd) : (s.setTgt ch v).RegistersSound :=
  ⟨h.started, h.wd, h.lt, h.wix, forall_get_set (P := fun w => classify w ≠ .rsvd) h.tgt ch hv⟩

theorem State.RegistersSound.setLed {s : State} (h : s.RegistersSound) (ch : Channel) (b : Bool) :
    (s.setLed ch b).RegistersSound :=
  h.congr rfl rfl rfl rfl rfl rfl

theorem State.RegistersSound.setCcr {s : State} (h : s.RegistersSound) (ch : Channel) (v : Word) :
    (s.setCcr ch v).RegistersSound :=
  h.congr rfl rfl rfl rfl rfl rfl

/-- A write of R141 keeps the bounds unless its target is a reserved word. -/
theorem State.RegistersSound.applyWrite {s : State} (h : s.RegistersSound) {w : Write} (hw : Write.legal w = true) :
    (applyWrite w s).RegistersSound := by
  cases w with
  | tgtw ch v => exact h.setTgt ch ((tgtw_legal_iff ch v).mp hw)
  | ledtrig ch => exact (h.setLed ch true).setLt ch (Nat.zero_le 15)
  | wdclr => exact h.setWd (Nat.zero_le _)

theorem State.RegistersSound.applyAll {s : State} (h : s.RegistersSound) {ws : List Write} (hws : AllLegal ws) :
    (applyAll ws s).RegistersSound := by
  induction ws generalizing s with
  | nil => exact h
  | cons w rest ih =>
    obtain ⟨hw, hrest⟩ := (allLegal_cons_iff w rest).mp hws
    exact ih (h.applyWrite hw) hrest

/-- R188: the watchdog saturates at SERVO_TIMEOUT. -/
theorem State.RegistersSound.watchdogTick {s : State} (h : s.RegistersSound) : s.watchdogTick.RegistersSound := by
  apply h.setWd
  rw [narrow_natCast_toNat (by omega)]
  exact Nat.min_le_right _ _

/-- R190: the LED tick writes an LT of at most LED_TIMEOUT, or 0. -/
theorem State.RegistersSound.ledTick {s : State} (h : s.RegistersSound) (ch : Channel) :
    (s.ledTick ch).RegistersSound := by
  rcases ledTick_cases s ch with ⟨_, heq⟩ | ⟨hle, heq⟩ <;> rw [heq]
  · exact (h.setLed ch false).setLt ch (Nat.zero_le 15)
  · exact h.setLt ch hle

theorem State.RegistersSound.channelUpdate {s : State} (h : s.RegistersSound) (ch : Channel) :
    (channelUpdate ch s).RegistersSound := by
  rw [channelUpdate_frame]
  exact h.setCcr ch _

theorem State.RegistersSound.recenter {s : State} (h : s.RegistersSound) : s.recenter.RegistersSound := by
  have hcentre : classify servoCenter ≠ .rsvd := by decide
  exact (((h.setTgt .ch1 hcentre).setCcr .ch1 _).setTgt .ch2 hcentre).setCcr .ch2 _

theorem State.RegistersSound.moveChannels {s : State} (h : s.RegistersSound) : (moveChannels s).RegistersSound := by
  rcases moveChannels_cases s with ⟨_, heq⟩ | ⟨_, heq⟩ <;> rw [heq]
  · exact h.recenter
  · exact (h.channelUpdate .ch1).channelUpdate .ch2

theorem State.RegistersSound.rolloverHandler {s : State} (h : s.RegistersSound) :
    (rolloverHandler s).RegistersSound := by
  have hentry : s.enterRollover.RegistersSound := h.congr rfl rfl rfl rfl rfl rfl
  exact (hentry.moveChannels.watchdogTick.ledTick .ch1).ledTick .ch2

/-- R196: the handler writes nothing that steers the foreground but INTR, on which readiness does not turn. -/
theorem State.Ready.rolloverHandler {s : State} (h : s.Ready) : (rolloverHandler s).Ready := by
  obtain ⟨tgt, ccr, wd, lt, led, heq⟩ := rolloverHandler_frame s
  rw [heq]
  exact h.congr rfl rfl rfl rfl rfl rfl

theorem counters_zero_get (k : Nat) : Counters.zero.get k = 0#16 := by
  unfold Counters.get
  split <;> rfl

/-- CYC_START clears the counters, so every wait begins with its counter at 0 (R101, R37(e)). -/
theorem phaseStep_cycStart_sound {s : State} (hs : s.RegistersSound) (hready : s.ReadyFor .cycStart) :
    (s.phaseStep .cycStart).Sound := by
  have hbase : (((s.setCounters Counters.zero).setIntr false).setOut .invalid).RegistersSound :=
    hs.congr rfl rfl rfl rfl rfl rfl
  exact ⟨(hbase.setWix (Nat.succ_pos _)).goto _, State.ReadyFor.goto ⟨hready, fun k _ _ => counters_zero_get k⟩⟩

theorem phaseStep_waitEnter_sound {s : State} (hs : s.RegistersSound) (hready : s.ReadyFor .waitEnter) :
    (s.phaseStep .waitEnter).Sound := by
  obtain ⟨hpend, hzero⟩ := hready
  refine ⟨State.RegistersSound.congr hs rfl rfl rfl rfl rfl rfl, State.ReadyFor.goto ⟨hpend, fun k hk hahead => ?_⟩⟩
  exact hzero k hk (Nat.le_of_succ_le hahead)

/-- A counted tick goes to the counter of the current wait, which is not ahead of it (R104, R37(e)). -/
theorem countTick_zeroFrom {s : State} (h : s.ZeroFrom 2) (hmeasuring : s.cfg.settleWaits ≤ s.wix) :
    (s.countTick (s.wix - s.cfg.settleWaits + 1)).ZeroFrom 2 := by
  intro k hk hahead
  have hother : k ≠ s.wix - s.cfg.settleWaits + 1 := by
    have : s.wix + 2 ≤ s.cfg.settleWaits + k := hahead
    omega
  rw [State.countTick_c, Counters.get_set_other s.c hother]
  exact h k hk hahead

theorem pollOnce_sound {s : State} (hs : s.RegistersSound) (hready : s.ReadyFor .waitPoll) : (pollOnce s).Sound := by
  obtain ⟨hpend, hzero⟩ := hready
  rcases pollOnce_cases s with
    ⟨_, heq⟩ | ⟨_, _, _, heq⟩ | ⟨_, _, hnotlast, heq⟩ | ⟨_, _, hmeasuring, heq⟩ | ⟨_, _, _, heq⟩ <;> rw [heq]
  case inl => exact ⟨hs.goto _, State.ReadyFor.goto hpend⟩
  case inr.inl => exact ⟨hs.goto _, State.ReadyFor.goto hpend⟩
  case inr.inr.inl =>
    have hnext : s.wix + 1 < s.cfg.settleWaits + 5 := by
      have hwix : s.wix < s.cfg.settleWaits + 5 := hs.wix
      simp only [Config.nWaitsTotal, nCounters] at hnotlast
      omega
    refine ⟨(hs.setWix hnext).goto _, State.ReadyFor.goto ⟨hpend, fun k hk hahead => hzero k hk ?_⟩⟩
    exact hahead
  case inr.inr.inr.inl =>
    exact ⟨(hs.congr rfl rfl rfl rfl rfl rfl : (s.countTick _).RegistersSound).goto _,
      State.ReadyFor.goto ⟨hpend, countTick_zeroFrom hzero hmeasuring⟩⟩
  case inr.inr.inr.inr => exact ⟨hs.goto _, State.ReadyFor.goto ⟨hpend, hzero⟩⟩

/-- VALIDATE goes on to INTERPRET with the Valid outcome it stored (R108). -/
theorem phaseStep_validate_sound {s : State} (hs : s.RegistersSound) (hready : s.ReadyFor .validate) :
    (s.phaseStep .validate).Sound := by
  refine ⟨State.RegistersSound.congr hs rfl rfl rfl rfl rfl rfl, State.ReadyFor.goto ?_⟩
  cases hout : consensus s.c with
  | invalid => exact hready
  | valid sum => exact ⟨hready, DecodeOutcome.noConfusion⟩

theorem afterPeriod_of_out_ne_invalid {s : State} (h : s.out ≠ .invalid) : s.afterPeriod = s := by
  unfold State.afterPeriod
  split
  case h_1 sum hvalid => rfl
  case h_2 hinvalid => exact absurd hinvalid h

theorem deliver_sound {s : State} {ws : List Write} (hs : s.RegistersSound) (hready : s.ReadyFor .interpret)
    (hws : AllLegal ws) : (deliver ws s).Sound := by
  obtain ⟨hpend, hout⟩ := hready
  rcases deliver_cases ws s with ⟨_, heq⟩ | ⟨_, _, heq⟩ | ⟨hstaged, hne, heq⟩ <;> rw [heq]
  · have hkept : (applyAll ws s).pend = [] := by
      rw [applyAll_frame]
      exact hpend
    exact ⟨(hs.applyAll hws).goto _, State.ReadyFor.goto hkept⟩
  · exact ⟨hs.goto _, State.ReadyFor.goto hpend⟩
  · exact ⟨(hs.congr rfl rfl rfl rfl rfl rfl : (s.setPend ws).RegistersSound).goto _,
      State.ReadyFor.goto ⟨hne, hstaged, hout, hws⟩⟩

/-- A COMMIT step applies a legal write and stays while writes are left (R142). -/
theorem commitOnce_sound {s : State} (hs : s.RegistersSound) (hready : s.ReadyFor .commit) : (commitOnce s).Sound := by
  obtain ⟨hne, hstaged, hout, hlegal⟩ := hready
  rcases commitOnce_cases s with ⟨w, rest, hpend, heq⟩ | ⟨hempty, _⟩
  · rw [hpend, allLegal_cons_iff] at hlegal
    obtain ⟨hw, hrest⟩ := hlegal
    have happlied : ((applyWrite w s).setPend rest).RegistersSound :=
      (hs.applyWrite hw).congr rfl rfl rfl rfl rfl rfl
    rw [heq]
    refine ⟨happlied.goto _, State.ReadyFor.goto ?_⟩
    split
    case isTrue hdone => exact hdone
    case isFalse hmore =>
      rw [applyWrite_frame]
      exact ⟨hmore, hstaged, hout, hrest⟩
  · exact absurd hempty hne

/-- The foreground step of each phase keeps the invariant. -/
theorem phaseStep_sound {s : State} {p : Phase} (hs : s.RegistersSound) (hready : s.ReadyFor p) :
    (s.phaseStep p).Sound := by
  cases p with
  | cycStart => exact phaseStep_cycStart_sound hs hready
  | waitEnter => exact phaseStep_waitEnter_sound hs hready
  | waitPoll => exact pollOnce_sound hs hready
  | validate => exact phaseStep_validate_sound hs hready
  | interpret =>
    have hvalid : s.afterPeriod = s := afterPeriod_of_out_ne_invalid hready.2
    change (deliver _ s.afterPeriod).Sound
    rw [hvalid]
    exact deliver_sound hs hready (writeList_allLegal _ _ _ _)
  | commit => exact commitOnce_sound hs hready

/-- The register table of R36 meets the invariant, whatever the registers held. -/
theorem resetRegs_inv (s : State) (m : OpMode) : (s.resetRegs m).Inv := by
  refine (inv_iff _).mpr ⟨⟨rfl, Nat.zero_le _, fun ch => ?_, Nat.succ_pos _, fun ch => ?_⟩, .cycStart, rfl, rfl⟩
  · rw [State.resetRegs_lt, PerChannel.get_both]
    decide
  · rw [State.resetRegs_tgt, PerChannel.get_both]
    decide

theorem exec_tick_keeps_inv {s t : State} (hs : s.Inv) (h : exec .tick s = .next t) : t.Inv := by
  obtain ⟨hregs, p, hp, hready⟩ := (inv_iff s).mp hs
  obtain ⟨q, hq, rfl⟩ := exec_tick_next h
  obtain rfl : p = q := (Phase.code_inj_iff p q).mp (hp.symm.trans hq)
  exact (inv_iff _).mpr (phaseStep_sound hregs hready)

theorem exec_edge_keeps_inv {s t : State} (hs : s.Inv) (h : exec .edge s = .next t) : t.Inv := by
  cases h
  obtain ⟨hregs, hready⟩ := (inv_iff s).mp hs
  exact (inv_iff _).mpr ⟨hregs.congr rfl rfl rfl rfl rfl rfl, hready.congr rfl rfl rfl rfl rfl rfl⟩

theorem exec_rollover_keeps_inv {s t : State} (hs : s.Inv) (h : exec .rollover s = .next t) : t.Inv := by
  cases h
  obtain ⟨hregs, hready⟩ := (inv_iff s).mp hs
  exact (inv_iff _).mpr ⟨hregs.rolloverHandler, hready.rolloverHandler⟩

theorem exec_reset_inv {s t : State} {p : BitVec 2} (h : exec (.reset p) s = .next t) : t.Inv := by
  obtain ⟨m, _, rfl⟩ := exec_reset_next h
  exact resetRegs_inv s m

/-- The invariant does not read the listed events or the free index. -/
theorem afterEvent_inv {s : State} (hs : s.Inv) : s.afterEvent.Inv := by
  rw [State.afterEvent_frame]
  exact hs

/-- Settles O56: State.reset is itself a register table of R36. -/
theorem invariantHoldsAfterReset : Obligations.InvariantHoldsAfterReset :=
  ⟨resetRegs_inv State.reset .absolute, fun _ _ _ h => exec_reset_inv h⟩

/-- Settles O57: one lemma for each kind of event word. -/
theorem stepKeepsTheInvariant : Obligations.StepKeepsTheInvariant := by
  intro s t hs h
  obtain ⟨_, _, hexec⟩ := step_next h
  have hs' : s.afterEvent.Inv := afterEvent_inv hs
  rcases decodeEvent_cases s.nextEvent with hi | hi | hi | ⟨p, hi⟩ | hi <;> rw [hi] at hexec
  · exact exec_tick_keeps_inv hs' hexec
  · exact exec_edge_keeps_inv hs' hexec
  · exact exec_rollover_keeps_inv hs' hexec
  · exact exec_reset_inv hexec
  · exact nomatch hexec

end Sys2Proof.Machine
end

section
/-! The memory family: a step takes the next event word (R67, R85), and a staged commit with no event between its steps
ends where an atomic one does (R69, R140, R142). -/

namespace Sys2Proof

theorem decodeEvent_resetWord (p : BitVec 2) : decodeEvent (resetWord p) = .reset p := by
  revert p
  decide

end Sys2Proof

namespace Sys2Proof.Machine

theorem isResetWord_resetWord (p : BitVec 2) : isResetWord (resetWord p) = true := by
  revert p
  decide

theorem State.nextEvent_nil {s : State} (h : s.events = []) : s.nextEvent = Config.freeEvent s.freeIndex := by
  simp [State.nextEvent, h]

theorem State.afterEvent_nil {s : State} (h : s.events = []) : s.afterEvent = s.useFree := by
  simp [State.afterEvent, h]

/-- A step that is not refused for its configuration or for a missing RESET runs the next event word, listed or free. -/
theorem step_eq_exec_nextEvent {s : State} (hok : s.cfg.ok = true)
    (hrun : s.started = true ∨ isResetWord s.nextEvent = true) :
    step s = exec (decodeEvent s.nextEvent) s.afterEvent := by
  rcases fetch_cases s with ⟨hbad, _⟩ | ⟨_, hfresh, hother, _⟩ | ⟨_, _, hfetch⟩
  · exact absurd (hbad.symm.trans hok) Bool.false_ne_true
  · rw [hfresh, hother] at hrun
    exact absurd hrun (by decide)
  · exact step_of_run hfetch

/-- Settles O7: the next event word is the first listed one, or a free one when none is listed. -/
theorem stepRunsTheNextEvent : Obligations.StepRunsTheNextEvent := by
  refine ⟨fun s e es i hok hstarted hevents hi => ?_, fun s i hok hstarted hevents hi => ?_,
    fun s p es hok _ hevents => ?_⟩
  · subst hi
    exact step_listed hok hstarted hevents
  · subst hi
    rw [step_eq_exec_nextEvent hok (.inl hstarted), State.nextEvent_nil hevents, State.afterEvent_nil hevents]
    rfl
  · have hnext : s.nextEvent = resetWord p := State.nextEvent_cons hevents
    have hreset : isResetWord s.nextEvent = true := hnext ▸ isResetWord_resetWord p
    rw [step_eq_exec_nextEvent hok (.inr hreset), hnext, decodeEvent_resetWord, State.afterEvent_cons hevents]
    rfl

/-- An update of the state that every single write passes over, a whole write list passes over. -/
theorem applyAll_comm {f : State → State} (hf : ∀ w s, applyWrite w (f s) = f (applyWrite w s)) (ws : List Write)
    (s : State) : applyAll ws (f s) = f (applyAll ws s) := by
  induction ws generalizing s with
  | nil => rfl
  | cons w ws ih => rw [applyAll_cons, hf, ih, applyAll_cons]

theorem applyAll_goto (ws : List Write) (s : State) (p : Phase) : applyAll ws (s.goto p) = (applyAll ws s).goto p :=
  applyAll_comm (f := (State.goto · p)) (fun w s => applyWrite_goto w s p) ws s

theorem applyAll_setPend (ws : List Write) (s : State) (vs : List Write) :
    applyAll ws (s.setPend vs) = (applyAll ws s).setPend vs :=
  applyAll_comm (f := (State.setPend · vs)) (fun w s => applyWrite_setPend w s vs) ws s

theorem applyAll_setEvents (ws : List Write) (s : State) (es : List (BitVec 4)) :
    applyAll ws (s.setEvents es) = (applyAll ws s).setEvents es :=
  applyAll_comm (f := (State.setEvents · es)) (fun w s => applyWrite_setEvents w s es) ws s

/-- The state under another configuration. -/
def State.withCfg (s : State) (cfg : Config) : State := { s with cfg := cfg }

theorem applyWrite_withCfg (w : Write) (s : State) (cfg : Config) :
    applyWrite w (s.withCfg cfg) = (applyWrite w s).withCfg cfg := by
  cases w <;> rfl

/-- The writes of a commit do not read the configuration. -/
theorem applyAll_withCfg (ws : List Write) (s : State) (cfg : Config) :
    applyAll ws (s.withCfg cfg) = (applyAll ws s).withCfg cfg :=
  applyAll_comm (f := (State.withCfg · cfg)) (fun w s => applyWrite_withCfg w s cfg) ws s

/-- Writes made under another configuration are those of the state's own, once its own configuration is back. -/
theorem withCfg_applyAll_withCfg (ws : List Write) (s : State) (cfg : Config) :
    (applyAll ws (s.withCfg cfg)).withCfg s.cfg = applyAll ws s := by
  have hback : (s.withCfg cfg).withCfg s.cfg = s := rfl
  rw [← applyAll_withCfg, hback]

/-- No mapper reads ATOMIC_COMMIT (R140). -/
theorem writeList_withAtomicCommit (cfg : Config) (b : Bool) (mode : OpMode) (tgt : PerChannel Word) (sum : Nat) :
    writeList { cfg with atomicCommit := b } mode tgt sum = writeList cfg mode tgt sum := by
  cases mode <;> rfl

theorem pollOnce_setEvents (s : State) (es : List (BitVec 4)) :
    pollOnce (s.setEvents es) = (pollOnce s).setEvents es := by
  simp only [pollOnce, apply_ite (State.setEvents · es)]
  rfl

theorem deliver_setEvents (ws : List Write) (s : State) (es : List (BitVec 4)) :
    deliver ws (s.setEvents es) = (deliver ws s).setEvents es := by
  unfold deliver
  rw [applyAll_setEvents, State.setEvents_cfg]
  split_ifs <;> rfl

theorem afterPeriod_setEvents (s : State) (es : List (BitVec 4)) :
    (s.setEvents es).afterPeriod = s.afterPeriod.setEvents es := by
  unfold State.afterPeriod
  rw [State.setEvents_out]
  cases s.out <;> rfl

/-- A COMMIT step applies the first pending write and leaves the others pending (R142). -/
theorem commitOnce_of_pend_cons {s : State} {w : Write} {rest : List Write} (h : s.pend = w :: rest) :
    commitOnce s = ((applyWrite w s).setPend rest).goto (commitPhase rest) := by
  simp [commitOnce, h]

/-- With nothing pending a COMMIT step applies a free write (log entry 7). -/
theorem commitOnce_of_pend_nil {s : State} (h : s.pend = []) :
    commitOnce s = ((applyWrite (Config.freeWrite s.freeIndex) s.useFree).setPend []).goto .cycStart := by
  simp [commitOnce, h, commitPhase]

theorem commitOnce_setEvents (s : State) (es : List (BitVec 4)) :
    commitOnce (s.setEvents es) = (commitOnce s).setEvents es := by
  cases h : s.pend with
  | nil =>
    rw [commitOnce_of_pend_nil h, commitOnce_of_pend_nil (s := s.setEvents es) h]
    exact congrArg (fun t => (t.setPend []).goto .cycStart) (applyWrite_setEvents _ s.useFree es)
  | cons w rest =>
    rw [commitOnce_of_pend_cons h, commitOnce_of_pend_cons (s := s.setEvents es) h, applyWrite_setEvents]
    rfl

/-- A foreground step does not read the events to come, and leaves them listed. -/
theorem phaseStep_setEvents (s : State) (es : List (BitVec 4)) (p : Phase) :
    (s.setEvents es).phaseStep p = (s.phaseStep p).setEvents es := by
  cases p with
  | cycStart => rfl
  | waitEnter => rfl
  | waitPoll => exact pollOnce_setEvents s es
  | validate => rfl
  | interpret =>
    change deliver _ (s.setEvents es).afterPeriod = _
    rw [afterPeriod_setEvents, deliver_setEvents]
    rfl
  | commit => exact commitOnce_setEvents s es

/-- A run over one more TICK starts after the foreground step of the current phase (R84, R85). -/
theorem runWords_tick {s : State} {p : Phase} (ws : List (BitVec 4)) (hok : s.cfg.ok = true)
    (hstarted : s.started = true) (hphase : s.phase = p.code) :
    runWords (tickWord :: ws) s = runWords ws (s.phaseStep p) := by
  apply runWords_cons hok hstarted
  have htick : exec .tick (s.setEvents (ws ++ s.events)) = exec p.instr (s.setEvents (ws ++ s.events)) :=
    exec_tick_of_phase hphase
  rw [(phaseStep_foregroundFrame s p).events, ← phaseStep_setEvents, ← exec_phase_instr]
  exact htick

/-- One TICK for each pending write empties PEND, applies the writes in their order and starts the next cycle (R142). -/
theorem runWords_ticks_of_commit {ws : List Write} (hne : ws ≠ []) {s : State} (hok : s.cfg.ok = true)
    (hstarted : s.started = true) (hphase : s.phase = Phase.code .commit) (hpend : s.pend = ws) :
    runWords (ticksWords ws.length) s = .next (((applyAll ws s).setPend []).goto .cycStart) := by
  induction ws generalizing s with
  | nil => exact absurd rfl hne
  | cons w rest ih =>
    have hstep : s.phaseStep .commit = ((applyWrite w s).setPend rest).goto (commitPhase rest) :=
      commitOnce_of_pend_cons hpend
    have frame := applyWrite_foregroundFrame w s
    rw [List.length_cons, ticksWords, List.replicate_succ, runWords_tick (p := .commit) _ hok hstarted hphase, hstep]
    cases rest with
    | nil => rfl
    | cons v vs =>
      have hokNext : (applyWrite w s).cfg.ok = true := by rw [frame.cfg, hok]
      have hrest := ih (List.cons_ne_nil v vs) (s := ((applyWrite w s).setPend (v :: vs)).goto .commit)
        hokNext (frame.started.trans hstarted) rfl rfl
      rw [applyAll_goto, applyAll_setPend] at hrest
      exact hrest

/-- A TICK at INTERPRET with a Valid period delivers the list of that period (R140). -/
theorem phaseStep_interpret_of_valid {s : State} {sum : Word} (hout : s.out = .valid sum) :
    s.phaseStep .interpret = deliver (writeList s.cfg s.mode s.tgt sum.toNat) s := by
  have hperiod : s.period = sum := by simp [State.period, hout]
  have hkept : s.afterPeriod = s := afterPeriod_of_out_ne_invalid (by simp [hout])
  change deliver (writeList s.cfg s.mode s.tgt s.period.toNat) s.afterPeriod = _
  rw [hperiod, hkept]

theorem deliver_of_atomic {s : State} (ws : List Write) (h : s.cfg.atomicCommit = true) :
    deliver ws s = (applyAll ws s).goto .cycStart := by
  simp [deliver, h]

/-- INTERPRET of a Valid period under ATOMIC_COMMIT = true applies the whole list (R140). -/
theorem exec_interpret_of_atomic {s : State} {sum : Word} (hatomic : s.cfg.atomicCommit = true)
    (hout : s.out = .valid sum) :
    exec .interpret s = .next ((applyAll (writeList s.cfg s.mode s.tgt sum.toNat) s).goto .cycStart) := by
  have hrun := exec_phase_instr s .interpret
  rw [phaseStep_interpret_of_valid hout, deliver_of_atomic _ hatomic] at hrun
  exact hrun

/-- A staged delivery into an empty PEND, followed by one TICK for each write of its list, applies the whole list. -/
theorem runWords_ticks_of_staged {s : State} (ws : List Write) (hok : s.cfg.ok = true) (hstarted : s.started = true)
    (hpend : s.pend = []) (hstaged : s.cfg.atomicCommit = false) :
    runWords (ticksWords ws.length) (deliver ws s) = .next ((applyAll ws s).goto .cycStart) := by
  rcases deliver_cases ws s with ⟨hatomic, _⟩ | ⟨_, rfl, heq⟩ | ⟨_, hne, heq⟩
  · exact absurd (hstaged.symm.trans hatomic) Bool.false_ne_true
  · rw [heq]
    rfl
  · have hsame : s.setPend [] = s := by rw [State.setPend, ← hpend]
    have hkept : applyAll ws s = (applyAll ws s).setPend [] := by rw [← applyAll_setPend, hsame]
    have hcommits := runWords_ticks_of_commit hne (s := (s.setPend ws).goto .commit) hok hstarted rfl rfl
    rw [applyAll_goto, applyAll_setPend] at hcommits
    rw [heq, hkept]
    exact hcommits

/-- A TICK at INTERPRET of a Valid period under ATOMIC_COMMIT = false, and one for each write of its list, apply the
whole list (R140, R142). -/
theorem runWords_ticks_of_interpret {s : State} {sum : Word} (hok : s.cfg.ok = true) (hstarted : s.started = true)
    (hphase : s.phase = Phase.code .interpret) (hout : s.out = .valid sum) (hpend : s.pend = [])
    (hstaged : s.cfg.atomicCommit = false) :
    runWords (ticksWords (1 + (writeList s.cfg s.mode s.tgt sum.toNat).length)) s =
      .next ((applyAll (writeList s.cfg s.mode s.tgt sum.toNat) s).goto .cycStart) := by
  rw [Nat.add_comm, ticksWords, List.replicate_succ, runWords_tick (p := .interpret) _ hok hstarted hphase,
    phaseStep_interpret_of_valid hout]
  exact runWords_ticks_of_staged _ hok hstarted hpend hstaged

/-- Settles O24: both ways end with the whole list applied and the next cycle begun. -/
theorem stagedCommitEqualsAtomicCommit : Obligations.StagedCommitEqualsAtomicCommit := by
  intro s sum hok hstarted hphase hout hpend hstaged
  refine ⟨_, exec_interpret_of_atomic (s := s.withCfg { s.cfg with atomicCommit := true }) rfl hout, ?_⟩
  have hlist : writeList { s.cfg with atomicCommit := true } s.mode s.tgt sum.toNat =
      writeList s.cfg s.mode s.tgt sum.toNat := writeList_withAtomicCommit s.cfg true s.mode s.tgt sum.toNat
  rw [runWords_ticks_of_interpret hok hstarted hphase hout hpend hstaged,
    ← withCfg_applyAll_withCfg _ s { s.cfg with atomicCommit := true }, ← hlist]
  rfl

end Sys2Proof.Machine
end

section
/-! The encoding family, first part: the fields of a command word, its classes as ranges of values, and the decoder and the
encoder as inverses of each other (R80 to R87). -/

namespace Sys2Proof

theorem magField_toNat (v : Word) : (magField v).toNat = v.toNat % 32 := by
  rw [magField, BitVec.extractLsb'_toNat, Nat.shiftRight_zero]

theorem magField_eq_zero_iff (v : Word) : magField v = 0#5 ↔ v.toNat % 32 = 0 := by
  rw [← BitVec.toNat_inj, magField_toNat, BitVec.toNat_ofNat, Nat.zero_mod]

/-- R82: some bit of 15:6 is set exactly when the word is 64 or more. -/
theorem bits_15_6_ne_zero_iff (v : Word) : v.extractLsb' 6 10 ≠ 0#10 ↔ v.toNat / 64 ≠ 0 := by
  rw [ne_eq, ← BitVec.toNat_inj, BitVec.extractLsb'_toNat, Nat.shiftRight_eq_div_pow, BitVec.toNat_ofNat]
  omega

theorem bit_5_eq_one_iff (v : Word) : v.extractLsb' 5 1 = 1#1 ↔ v.toNat / 32 % 2 = 1 := by
  rw [← BitVec.toNat_inj, BitVec.extractLsb'_toNat, Nat.shiftRight_eq_div_pow, BitVec.toNat_ofNat]

/-- The classifier in arithmetic on the value of the word, in the order of R82. -/
theorem classify_eq_ite (v : Word) :
    classify v =
      if 2000 < v.toNat then .abs
      else if v.toNat / 64 ≠ 0 then .rsvd
      else if v.toNat / 32 % 2 = 1 then .dec
      else if v.toNat % 32 = 0 then .stop
      else .inc := by
  simp only [← bits_15_6_ne_zero_iff, ← bit_5_eq_one_iff, ← magField_eq_zero_iff]
  rfl

/-- The values of a class (R80, R82). -/
def CmdClass.Range : CmdClass → Nat → Prop
  | .abs, n => 2001 ≤ n
  | .rsvd, n => 64 ≤ n ∧ n ≤ 2000
  | .dec, n => 32 ≤ n ∧ n ≤ 63
  | .inc, n => 1 ≤ n ∧ n ≤ 31
  | .stop, n => n = 0

theorem range_classify (v : Word) : (classify v).Range v.toNat := by
  rw [classify_eq_ite]
  split_ifs <;> simp only [CmdClass.Range] <;> omega

/-- No value lies in the ranges of two classes. -/
theorem CmdClass.Range.unique {k k' : CmdClass} {n : Nat} (h : k.Range n) (h' : k'.Range n) : k = k' := by
  cases k <;> cases k' <;> simp only [CmdClass.Range, reduceCtorEq] at h h' ⊢ <;> omega

theorem classify_eq_iff (v : Word) (k : CmdClass) : classify v = k ↔ k.Range v.toNat :=
  ⟨fun h => h ▸ range_classify v, (range_classify v).unique⟩

/-- Settles O4: the tests in arithmetic, and the range of each class. -/
theorem classifierFollowsValueRanges : Obligations.ClassifierFollowsValueRanges := fun v =>
  ⟨classify_eq_ite v, classify_eq_iff v .abs, classify_eq_iff v .rsvd, classify_eq_iff v .dec, classify_eq_iff v .inc,
    classify_eq_iff v .stop⟩

theorem incWord_toNat (m : BitVec 5) : (incWord m).toNat = m.toNat := by
  rw [incWord, BitVec.toNat_append, ← Nat.shiftLeft_add_eq_or_of_lt m.isLt]
  simp

theorem decWord_toNat (m : BitVec 5) : (decWord m).toNat = 32 + m.toNat := by
  rw [decWord, BitVec.toNat_append, ← Nat.shiftLeft_add_eq_or_of_lt m.isLt]
  rfl

/-- R81: below 32 the magnitude field is the whole word. -/
theorem incWord_magField {v : Word} (h : v.toNat < 32) : incWord (magField v) = v := by
  apply BitVec.eq_of_toNat_eq
  rw [incWord_toNat, magField_toNat]
  omega

/-- R81: from 32 to 63 the word is its magnitude field with bit 5 set. -/
theorem decWord_magField {v : Word} (hlo : 32 ≤ v.toNat) (hhi : v.toNat ≤ 63) : decWord (magField v) = v := by
  apply BitVec.eq_of_toNat_eq
  rw [decWord_toNat, magField_toNat]
  omega

theorem magField_incWord (m : BitVec 5) : magField (incWord m) = m := by
  apply BitVec.eq_of_toNat_eq
  rw [magField_toNat, incWord_toNat]
  omega

theorem magField_decWord (m : BitVec 5) : magField (decWord m) = m := by
  apply BitVec.eq_of_toNat_eq
  rw [magField_toNat, decWord_toNat]
  omega

/-- R81: up to 63, bit 5 is the test of the value against 32. -/
theorem getLsbD_5_eq_decide {v : Word} (h : v.toNat ≤ 63) : v.getLsbD 5 = decide (32 ≤ v.toNat) := by
  rw [BitVec.getLsbD, Nat.testBit_eq_decide_div_mod_eq, decide_eq_decide]
  omega

/-- Settles O5: bit 5 tells which of the two words of its magnitude field the word is. -/
theorem rateWordsCarryTheirMagnitude : Obligations.RateWordsCarryTheirMagnitude := by
  intro v hv
  rw [getLsbD_5_eq_decide hv, decide_eq_false_iff_not, decide_eq_true_iff, magField_toNat]
  constructor
  · intro hinc
    exact ⟨(incWord_magField (by omega)).symm, by omega⟩
  · intro hdec
    exact ⟨(decWord_magField hdec hv).symm, by omega⟩

theorem classify_incWord {m : BitVec 5} (h : m ≠ 0#5) : classify (incWord m) = .inc := by
  have hm := m.isLt
  have hpos : m.toNat ≠ 0 := fun hzero => h (BitVec.eq_of_toNat_eq hzero)
  rw [classify_eq_iff, incWord_toNat, CmdClass.Range]
  omega

theorem classify_decWord (m : BitVec 5) : classify (decWord m) = .dec := by
  have hm := m.isLt
  rw [classify_eq_iff, decWord_toNat, CmdClass.Range]
  omega

/-- A command word decodes by its class (R80). -/
theorem decodeCommand_of_abs {v : Word} (ch : Channel) (h : classify v = .abs) : decodeCommand ch v = .abs ch v := by
  simp [decodeCommand, h]

theorem decodeCommand_of_rsvd {v : Word} (ch : Channel) (h : classify v = .rsvd) : decodeCommand ch v = .rsvd ch v := by
  simp [decodeCommand, h]

theorem decodeCommand_of_dec {v : Word} (ch : Channel) (h : classify v = .dec) :
    decodeCommand ch v = .dec ch (magField v) := by
  simp [decodeCommand, h]

theorem decodeCommand_of_stop {v : Word} (ch : Channel) (h : classify v = .stop) : decodeCommand ch v = .stop ch := by
  simp [decodeCommand, h]

theorem decodeCommand_of_inc {v : Word} (ch : Channel) (h : classify v = .inc) :
    decodeCommand ch v = .inc ch (magField v) := by
  simp [decodeCommand, h]

theorem decodePhase_reserved (x : BitVec 1) : decodePhase (0b11#2 ++ x) = .phaseReserved x := by
  revert x
  decide

/-- R85, R89(c): nonzero pins on a kind other than RESET make the word malformed. -/
theorem decodeEvent_malformed {e : BitVec 4} (hpins : e.extractLsb' 2 2 ≠ 0#2) (hkind : e.extractLsb' 0 2 ≠ 3#2) :
    decodeEvent e = .eventMalformed e := by
  rw [decodeEvent, if_neg hkind, if_pos hpins]

/-- Settles O2: a command word by its class, a phase code and an event word by their tables. -/
theorem decodeInvertsEncode : Obligations.DecodeInvertsEncode := by
  intro i hwf
  cases i with
  | abs ch v => exact decodeCommand_of_abs ch ((classify_eq_iff v .abs).mpr (of_decide_eq_true (p := 2000 < v.toNat) hwf))
  | rsvd ch v =>
    rw [Instr.wf, Bool.and_eq_true, decide_eq_true_eq, decide_eq_true_eq] at hwf
    exact decodeCommand_of_rsvd ch ((classify_eq_iff v .rsvd).mpr hwf)
  | dec ch m =>
    have h := decodeCommand_of_dec ch (classify_decWord m)
    rwa [magField_decWord] at h
  | stop ch => exact decodeCommand_of_stop ch ((classify_eq_iff 0#16 .stop).mpr rfl)
  | inc ch m =>
    have h := decodeCommand_of_inc ch (classify_incWord (of_decide_eq_true hwf))
    rwa [magField_incWord] at h
  | phaseReserved x => exact decodePhase_reserved x
  | reset p => exact decodeEvent_resetWord p
  | eventMalformed e =>
    rw [Instr.wf, Bool.and_eq_true, decide_eq_true_eq, decide_eq_true_eq] at hwf
    obtain ⟨hpins, hkind⟩ := hwf
    exact decodeEvent_malformed hpins hkind
  | cycStart | waitEnter | waitPoll | validate | interpret | commit | tick | edge | rollover => rfl

/-- R80: a command word decodes to a well-formed operation, and no bit of it is lost. -/
theorem wf_decodeCommand_and_encode (ch : Channel) (v : Word) :
    (decodeCommand ch v).wf = true ∧ encode (decodeCommand ch v) = .command ch v := by
  have hrange := range_classify v
  cases hclass : classify v <;> rw [hclass] at hrange
  case abs =>
    rw [decodeCommand_of_abs ch hclass]
    exact ⟨decide_eq_true hrange, rfl⟩
  case rsvd =>
    obtain ⟨hlo, hhi⟩ := hrange
    rw [decodeCommand_of_rsvd ch hclass]
    exact ⟨by simp [Instr.wf, hlo, hhi], rfl⟩
  case dec =>
    obtain ⟨hlo, hhi⟩ := hrange
    rw [decodeCommand_of_dec ch hclass]
    exact ⟨rfl, congrArg _ (decWord_magField hlo hhi)⟩
  case stop =>
    have hzero : v = 0#16 := BitVec.eq_of_toNat_eq hrange
    rw [decodeCommand_of_stop ch hclass, hzero]
    exact ⟨rfl, rfl⟩
  case inc =>
    obtain ⟨hlo, hhi⟩ := hrange
    have hm : magField v ≠ 0#5 := by
      rw [ne_eq, magField_eq_zero_iff]
      omega
    rw [decodeCommand_of_inc ch hclass]
    exact ⟨decide_eq_true hm, congrArg _ (incWord_magField (by omega))⟩

/-- R84: the table of the eight phase codes. -/
theorem wf_decodePhase_and_encode (c : BitVec 3) :
    (decodePhase c).wf = true ∧ encode (decodePhase c) = .phase c := by
  revert c
  decide

/-- R85: the table of the sixteen event words. -/
theorem wf_decodeEvent_and_encode (e : BitVec 4) :
    (decodeEvent e).wf = true ∧ encode (decodeEvent e) = .event e := by
  revert e
  decide

/-- Settles O3, interface by interface. -/
theorem encodeInvertsDecode : Obligations.EncodeInvertsDecode
  | .command ch v => wf_decodeCommand_and_encode ch v
  | .phase c => wf_decodePhase_and_encode c
  | .event e => wf_decodeEvent_and_encode e

/-- Settles O1: the decoders evaluated at the eleven words. -/
theorem sampleWordsDecode : Obligations.SampleWordsDecode := by
  unfold Obligations.SampleWordsDecode
  decide

end Sys2Proof

namespace Sys2Proof.Machine

theorem toBits_valid_toNat (sum : Word) : (DecodeOutcome.valid sum).toBits.toNat = 65536 + sum.toNat := by
  rw [DecodeOutcome.toBits, BitVec.toNat_append, ← Nat.shiftLeft_add_eq_or_of_lt sum.isLt]
  rfl

/-- The valid bit of OUT is bit 16, and the sum the sixteen bits below it (R87). -/
theorem ofBits_toBits (o : DecodeOutcome) : DecodeOutcome.ofBits o.toBits = o := by
  cases o with
  | invalid => rfl
  | valid sum =>
    have hvalid : (1#1 ++ sum).extractLsb' 16 1 = 1#1 := BitVec.extractLsb'_append_eq_left
    have hsum : (1#1 ++ sum).extractLsb' 0 16 = sum := BitVec.extractLsb'_append_eq_right
    rw [DecodeOutcome.toBits, DecodeOutcome.ofBits, if_pos hvalid, hsum]

/-- Settles O6: the 17-bit values of OUT, and OUT read back from them. -/
theorem outcomeBitsCarryValidAndSum : Obligations.OutcomeBitsCarryValidAndSum :=
  ⟨rfl, toBits_valid_toNat, ofBits_toBits⟩

end Sys2Proof.Machine
end

section
/-! The encoding family, second part: the words that each producer of targets writes (R83). -/

namespace Sys2Proof

/-- R83: a word of 63 or less is a rate word. -/
theorem classify_of_le_63 {v : Word} (h : v.toNat ≤ 63) : classify v = .stop ∨ classify v = .inc ∨ classify v = .dec := by
  simp only [classify_eq_iff, CmdClass.Range]
  omega

/-- A target written in Relative mode is the STOP word, or the word of a row that holds the period (R146, R148). -/
theorem toNat_le_of_mem_relWrites {bands : List RelBand} {ch ch' : Channel} {sum : Nat} {v : Word}
    (h : Write.tgtw ch v ∈ relWrites bands ch' sum) : v.toNat ≤ 63 := by
  unfold relWrites at h
  split at h
  case h_1 hnone =>
    simp only [List.mem_singleton, Write.tgtw.injEq] at h
    obtain ⟨-, rfl⟩ := h
    decide
  case h_2 r hrow =>
    have hhit := List.find?_some hrow
    rw [Bool.and_eq_true] at hhit
    obtain ⟨hch, hholds⟩ := hhit
    have hvalue := RelBand.value_lt hholds
    simp only [List.mem_cons, Write.tgtw.injEq, reduceCtorEq, List.not_mem_nil, or_false] at h
    obtain ⟨-, rfl⟩ := h
    rw [narrow_natCast_toNat (by omega)]
    omega

theorem toNat_le_of_mem_mapRel {cfg : Config} {ch : Channel} {sum : Nat} {v : Word}
    (h : Write.tgtw ch v ∈ mapRel cfg sum) : v.toNat ≤ 63 := by
  simp only [mapRel, List.mem_cons, List.mem_append, reduceCtorEq, false_or] at h
  rcases h with h | h <;> exact toNat_le_of_mem_relWrites h

/-- A target written in Differential mode lies within DIFF_SPAN of the centre (R151). -/
theorem toNat_bounds_of_mem_mapDiff {cfg : Config} {ch : Channel} {sum : Nat} {v : Word}
    (h : Write.tgtw ch v ∈ mapDiff cfg sum) : 2001 ≤ v.toNat ∧ v.toNat ≤ 9999 := by
  unfold mapDiff at h
  split at h
  case h_1 hnone => exact absurd h List.not_mem_nil
  case h_2 r hrow =>
    have hhit := List.find?_some hrow
    have hdistance := DiffBand.distance_lt hhit
    simp only [List.mem_cons, Write.tgtw.injEq, reduceCtorEq, List.not_mem_nil, or_false, false_or] at h
    rcases h with ⟨-, rfl⟩ | ⟨-, rfl⟩ <;> exact diffValue_toNat_bounds _ hdistance

/-- A target written in Absolute mode is the value of a band that holds the period (R156, R158). -/
theorem eq_absValue_of_mem_absWrites {cfg : Config} {tgt : PerChannel Word} {ch ch' : Channel} {sum : Nat} {v : Word}
    (h : Write.tgtw ch v ∈ absWrites cfg tgt ch' sum) :
    absHolds cfg ch' sum = true ∧ v = narrow (absValue cfg ch' sum) := by
  unfold absWrites at h
  split at h
  case isTrue hhit =>
    rw [Bool.and_eq_true] at hhit
    obtain ⟨hholds, hbeyond⟩ := hhit
    simp only [List.mem_cons, Write.tgtw.injEq, reduceCtorEq, List.not_mem_nil, or_false] at h
    exact ⟨hholds, h.2⟩
  case isFalse => exact absurd h List.not_mem_nil

theorem tgtw_mem_clearFirst_iff (ws : List Write) (ch : Channel) (v : Word) :
    Write.tgtw ch v ∈ clearFirst ws ↔ Write.tgtw ch v ∈ ws := by
  cases ws <;> simp [clearFirst]

theorem exists_absValue_of_mem_mapAbs {cfg : Config} {tgt : PerChannel Word} {ch : Channel} {sum : Nat} {v : Word}
    (h : Write.tgtw ch v ∈ mapAbs cfg tgt sum) :
    ∃ ch', absHolds cfg ch' sum = true ∧ v = narrow (absValue cfg ch' sum) := by
  rw [mapAbs, tgtw_mem_clearFirst_iff, List.mem_append] at h
  rcases h with h | h <;> exact ⟨_, eq_absValue_of_mem_absWrites h⟩

/-- R156: the Absolute values go in steps of ABS_SPAN div ABS_WIDTH = 32 from ABS_BASE. -/
theorem absValue_eq_steps (cfg : Config) (ch : Channel) (sum : Nat) :
    absValue cfg ch sum = 2000 + (absEdge cfg ch - sum) * 32 := rfl

/-- R156: inside its band an Absolute value is a pulse width from 2032 to 9968, in steps of 32. -/
theorem narrow_absValue_toNat_steps {cfg : Config} {ch : Channel} {sum : Nat} (h : absHolds cfg ch sum = true) :
    2032 ≤ (narrow (absValue cfg ch sum)).toNat ∧ (narrow (absValue cfg ch sum)).toNat ≤ 9968 ∧
      32 ∣ (narrow (absValue cfg ch sum)).toNat - 2032 := by
  have hbounds := absValue_bounds h
  have hvalue := narrow_absValue_toNat h
  have hsteps := absValue_eq_steps cfg ch sum
  omega

end Sys2Proof

namespace Sys2Proof.Machine

theorem recenter_tgt_get (s : State) (ch : Channel) : s.recenter.tgt.get ch = servoCenter := by
  rw [recenter_eq]
  exact PerChannel.get_both ch servoCenter

/-- Settles O32, producer by producer. -/
theorem producersWriteNoReservedWord : Obligations.ProducersWriteNoReservedWord := by
  refine ⟨fun cfg tgt sum ch v => ⟨fun habs => ?_, fun hdiff => ?_, fun hrel => ?_⟩, fun s ch => ?_, fun s m ch => ?_⟩
  · obtain ⟨ch', hholds, rfl⟩ := exists_absValue_of_mem_mapAbs habs
    obtain ⟨hlo, hhi, hstep⟩ := narrow_absValue_toNat_steps hholds
    exact ⟨(classify_eq_iff _ .abs).mpr (Nat.le_trans (by decide) hlo), hlo, hhi, hstep⟩
  · obtain ⟨hlo, hhi⟩ := toNat_bounds_of_mem_mapDiff hdiff
    exact ⟨(classify_eq_iff _ .abs).mpr hlo, hlo, hhi⟩
  · have hrate := toNat_le_of_mem_mapRel hrel
    exact ⟨hrate, classify_of_le_63 hrate⟩
  · rw [recenter_tgt_get]
    decide
  · rw [State.resetRegs_tgt, PerChannel.get_both]
    decide

end Sys2Proof.Machine
end

section
/-! The encoding family, third part: the event words that CYCLE expands to, from the measuring waits to the commit (R92). -/

namespace Sys2Proof.Machine

/-- The state with the registers that a cycle's foreground steps write before the commit (R101 to R108). -/
def State.withCapture (s : State) (p : Phase) (wix : Nat) (c : Counters) (out : DecodeOutcome) (edgef : Bool) : State :=
  { s with
    phase := p.code
    wix := wix
    c := c
    out := out
    edgef := edgef }

theorem applyAll_withCapture (ws : List Write) (s : State) (p : Phase) (wix : Nat) (c : Counters) (out : DecodeOutcome)
    (edgef : Bool) :
    applyAll ws (s.withCapture p wix c out edgef) = (applyAll ws s).withCapture p wix c out edgef :=
  applyAll_comm (f := (State.withCapture · p wix c out edgef)) (fun w _ => by cases w <;> rfl) ws s

/-- The state before VALIDATE of its cycle: OUT still holds the Invalid that CYC_START wrote (R101). -/
abbrev State.capturing (s : State) (p : Phase) (wix : Nat) (c : Counters) (edgef : Bool) : State :=
  s.withCapture p wix c .invalid edgef

section Capture

variable {s : State} {wix : Nat} {c : Counters} (edgef : Bool) (ws : List (BitVec 4))

/-- R104: an edge before the last wait ends goes on to the next wait. -/
theorem pollOnce_capturing_of_edge (hintr : s.intr = false) (hwix : wix + 1 < s.cfg.nWaitsTotal) :
    pollOnce (s.capturing .waitPoll wix c true) = s.capturing .waitEnter (wix + 1) c true := by
  rcases pollOnce_cases (s.capturing .waitPoll wix c true) with
    ⟨habort, _⟩ | ⟨_, _, hlast, _⟩ | ⟨_, _, _, heq⟩ | ⟨_, hnone, _⟩ | ⟨_, hnone, _⟩
  · exact absurd (hintr.symm.trans habort) Bool.false_ne_true
  · have hlast' : wix = s.cfg.nWaitsTotal - 1 := hlast
    omega
  · exact heq
  · exact nomatch hnone
  · exact nomatch hnone

/-- R104: an edge in the last wait ends the capture. -/
theorem pollOnce_capturing_of_last_edge (hintr : s.intr = false) (hwix : wix + 1 = s.cfg.nWaitsTotal) :
    pollOnce (s.capturing .waitPoll wix c true) = s.capturing .validate wix c true := by
  rcases pollOnce_cases (s.capturing .waitPoll wix c true) with
    ⟨habort, _⟩ | ⟨_, _, _, heq⟩ | ⟨_, _, hnotlast, _⟩ | ⟨_, hnone, _⟩ | ⟨_, hnone, _⟩
  · exact absurd (hintr.symm.trans habort) Bool.false_ne_true
  · exact heq
  · exact absurd (Nat.eq_sub_of_add_eq hwix) hnotlast
  · exact nomatch hnone
  · exact nomatch hnone

/-- R104: with no edge, the poll of measuring wait `j + 1` counts the tick in C[j + 1]. -/
theorem pollOnce_capturing_of_no_edge (hintr : s.intr = false) (j : Nat) :
    pollOnce (s.capturing .waitPoll (s.cfg.settleWaits + j) c false) =
      s.capturing .waitPoll (s.cfg.settleWaits + j) (c.set (j + 1) (c.get (j + 1) + 1#16)) false := by
  rcases pollOnce_cases (s.capturing .waitPoll (s.cfg.settleWaits + j) c false) with
    ⟨habort, _⟩ | ⟨_, hedge, _⟩ | ⟨_, hedge, _⟩ | ⟨_, _, _, heq⟩ | ⟨_, _, hsettling, _⟩
  · exact absurd (hintr.symm.trans habort) Bool.false_ne_true
  · exact nomatch hedge
  · exact nomatch hedge
  · have hindex : (s.capturing .waitPoll (s.cfg.settleWaits + j) c false).wix
        - (s.capturing .waitPoll (s.cfg.settleWaits + j) c false).cfg.settleWaits = j := Nat.add_sub_cancel_left _ _
    rw [heq, hindex]
    rfl
  · exact absurd (Nat.le_add_right _ _) (Nat.not_le_of_lt hsettling)

variable (hok : s.cfg.ok = true) (hstarted : s.started = true)
include hok hstarted

theorem runWords_tick_of_capturing_waitPoll :
    runWords (tickWord :: ws) (s.capturing .waitPoll wix c edgef) =
      runWords ws (pollOnce (s.capturing .waitPoll wix c edgef)) :=
  runWords_tick (s := s.capturing .waitPoll wix c edgef) (p := .waitPoll) ws hok hstarted rfl

/-- R104, R107: `n` polls without an edge in measuring wait `j + 1` add `n` to its counter, modulo 2^16. -/
theorem runWords_ticks_of_measuring (hintr : s.intr = false) {j : Nat} (hj : j ≤ 4) (n : Nat) :
    runWords (ticksWords n ++ ws) (s.capturing .waitPoll (s.cfg.settleWaits + j) c false) =
      runWords ws (s.capturing .waitPoll (s.cfg.settleWaits + j)
        (c.set (j + 1) (c.get (j + 1) + BitVec.ofNat 16 n)) false) := by
  induction n generalizing c with
  | zero =>
    rw [BitVec.add_zero, Counters.set_get_self]
    rfl
  | succ n ih =>
    have hwords : ticksWords (n + 1) ++ ws = tickWord :: (ticksWords n ++ ws) := rfl
    have hcount : c.get (j + 1) + 1#16 + BitVec.ofNat 16 n = c.get (j + 1) + BitVec.ofNat 16 (n + 1) := by
      rw [BitVec.add_assoc, Nat.add_comm n 1, BitVec.ofNat_add]
    rw [hwords, runWords_tick_of_capturing_waitPoll _ _ hok hstarted, pollOnce_capturing_of_no_edge hintr, ih,
      Counters.get_set_same c (by omega) (by omega), Counters.set_set_same, hcount]

/-- The group of one wait, when its polls without an edge take the counters from `c` to `c'`: the poll after the edge is
the last of it (R92, R103). -/
theorem runWords_waitWords {n : Nat} {c' : Counters}
    (hpolls : ∀ vs, runWords (ticksWords n ++ vs) (s.capturing .waitPoll wix c false) =
      runWords vs (s.capturing .waitPoll wix c' false)) :
    runWords (waitWords n ++ ws) (s.capturing .waitEnter wix c edgef) =
      runWords ws (pollOnce (s.capturing .waitPoll wix c' true)) := by
  have hwords : waitWords n ++ ws = tickWord :: (ticksWords n ++ edgeWord :: tickWord :: ws) := by
    simp [waitWords]
  have henter : (s.capturing .waitEnter wix c edgef).phaseStep .waitEnter = s.capturing .waitPoll wix c false := rfl
  have hedge : (s.capturing .waitPoll wix c' false).setEdgef true = s.capturing .waitPoll wix c' true := rfl
  rw [hwords, runWords_tick_of_waitEnter (s := s.capturing .waitEnter wix c edgef) _ hok hstarted rfl, henter, hpolls,
    runWords_edge (s := s.capturing .waitPoll wix c' false) _ hok hstarted, hedge,
    runWords_tick_of_capturing_waitPoll _ _ hok hstarted]

/-- The settling waits count nothing. The EDGEF they leave is the one they found only when there are none, and the
WAIT_ENTER after them clears it either way (R100, R103). -/
theorem runWords_settleWords (hintr : s.intr = false) (n : Nat) (hn : wix + n ≤ s.cfg.settleWaits) :
    ∃ edgef', ∀ ws, runWords (settleWords n ++ ws) (s.capturing .waitEnter wix c edgef) =
      runWords ws (s.capturing .waitEnter (wix + n) c edgef') := by
  induction n generalizing wix edgef with
  | zero => exact ⟨edgef, fun _ => rfl⟩
  | succ n ih =>
    have hnext : wix + 1 < s.cfg.nWaitsTotal := by
      simp only [Config.nWaitsTotal, nCounters]
      omega
    obtain ⟨edgef', hrest⟩ := ih (wix := wix + 1) true (by omega)
    refine ⟨edgef', fun ws => ?_⟩
    rw [settleWords, List.append_assoc, runWords_waitWords (n := 0) _ _ hok hstarted (fun _ => rfl),
      pollOnce_capturing_of_edge hintr hnext, hrest, Nat.add_right_comm, Nat.add_assoc]

/-- A measuring wait of `v` counting polls stores `v` in its counter, which was still 0 (R92, R104). -/
theorem runWords_waitWords_of_measuring (hintr : s.intr = false) {j : Nat} (hj : j ≤ 4) (hzero : c.get (j + 1) = 0#16)
    (v : Word) :
    runWords (waitWords v.toNat ++ ws) (s.capturing .waitEnter (s.cfg.settleWaits + j) c edgef) =
      runWords ws (pollOnce (s.capturing .waitPoll (s.cfg.settleWaits + j) (c.set (j + 1) v) true)) := by
  refine runWords_waitWords _ _ hok hstarted (fun vs => ?_)
  rw [runWords_ticks_of_measuring vs hok hstarted hintr hj, hzero, BitVec.zero_add, BitVec.ofNat_toNat,
    BitVec.setWidth_eq]

theorem runWords_waitWords_of_not_last (hintr : s.intr = false) {j : Nat} (hj : j < 4) (hzero : c.get (j + 1) = 0#16)
    (v : Word) :
    runWords (waitWords v.toNat ++ ws) (s.capturing .waitEnter (s.cfg.settleWaits + j) c edgef) =
      runWords ws (s.capturing .waitEnter (s.cfg.settleWaits + (j + 1)) (c.set (j + 1) v) true) := by
  have hnext : s.cfg.settleWaits + j + 1 < s.cfg.nWaitsTotal := by
    simp only [Config.nWaitsTotal, nCounters]
    omega
  rw [runWords_waitWords_of_measuring _ _ hok hstarted hintr (by omega) hzero, pollOnce_capturing_of_edge hintr hnext,
    Nat.add_assoc]

theorem runWords_waitWords_of_last (hintr : s.intr = false) (hzero : c.get 5 = 0#16) (v : Word) :
    runWords (waitWords v.toNat ++ ws) (s.capturing .waitEnter (s.cfg.settleWaits + 4) c edgef) =
      runWords ws (s.capturing .validate (s.cfg.settleWaits + 4) (c.set 5 v) true) := by
  rw [runWords_waitWords_of_measuring _ _ hok hstarted hintr (by omega) hzero, pollOnce_capturing_of_last_edge hintr rfl]

/-- The first TICK of a cycle clears the registers of the capture (R101). -/
theorem runWords_tick_of_cycStart (hphase : s.phase = Phase.code .cycStart) (hintr : s.intr = false) :
    runWords (tickWord :: ws) s = runWords ws (s.capturing .waitEnter 0 Counters.zero s.edgef) := by
  have hstart : s.phaseStep .cycStart = s.capturing .waitEnter 0 Counters.zero s.edgef := by
    change { s.capturing .waitEnter 0 Counters.zero s.edgef with intr := false } = _
    rw [← hintr]
    rfl
  rw [runWords_tick ws hok hstarted hphase, hstart]

/-- The capture of CYCLE a b c d e ends at VALIDATE with the five counters measured (R92, R100 to R104). -/
theorem runWords_captureWords (hphase : s.phase = Phase.code .cycStart) (hintr : s.intr = false) (c : Counters) :
    runWords (captureWords s.cfg.settleWaits c ++ ws) s =
      runWords ws (s.capturing .validate (s.cfg.settleWaits + 4) c true) := by
  simp only [captureWords, List.cons_append, List.append_assoc]
  rw [runWords_tick_of_cycStart _ hok hstarted hphase hintr]
  obtain ⟨edgef, hsettled⟩ := runWords_settleWords s.edgef (wix := 0) (c := Counters.zero) hok hstarted hintr
    s.cfg.settleWaits (Nat.zero_add _).le
  have hfirst : 0 + s.cfg.settleWaits = s.cfg.settleWaits + 0 := Nat.add_comm _ _
  rw [hsettled, hfirst, runWords_waitWords_of_not_last _ _ hok hstarted hintr (by decide) rfl,
    runWords_waitWords_of_not_last _ _ hok hstarted hintr (by decide) rfl,
    runWords_waitWords_of_not_last _ _ hok hstarted hintr (by decide) rfl,
    runWords_waitWords_of_not_last _ _ hok hstarted hintr (by decide) rfl,
    runWords_waitWords_of_last _ _ hok hstarted hintr rfl]
  rfl

/-- The TICKs of CYCLE after VALIDATE apply the whole write list, under either ATOMIC_COMMIT (R92, R140, R142). -/
theorem runWords_interpretTicks {sum : Word} (hphase : s.phase = Phase.code .interpret) (hout : s.out = .valid sum)
    (hpend : s.pend = []) :
    runWords (ticksWords (interpretTicks s (.valid sum))) s =
      .next ((applyAll (writeList s.cfg s.mode s.tgt sum.toNat) s).goto .cycStart) := by
  cases hatomic : s.cfg.atomicCommit with
  | true =>
    have hticks : ticksWords (interpretTicks s (.valid sum)) = [tickWord] := by simp [interpretTicks, hatomic, ticksWords]
    rw [hticks, runWords_tick [] hok hstarted hphase, phaseStep_interpret_of_valid hout, deliver_of_atomic _ hatomic,
      runWords_nil]
  | false =>
    have hticks : interpretTicks s (.valid sum) = 1 + (writeList s.cfg s.mode s.tgt sum.toNat).length := by
      simp [interpretTicks, hatomic]
    rw [hticks, runWords_ticks_of_interpret hok hstarted hphase hout hpend hatomic]

end Capture

/-- Settles O59: the capture, then VALIDATE, then the TICKs that the outcome asks for. -/
theorem cycleMeasuresAndCommits : Obligations.CycleMeasuresAndCommits := by
  intro s c hok hstarted hphase hintr hpend
  have hvalidate : (s.capturing .validate (s.cfg.settleWaits + 4) c true).phaseStep .validate =
      s.withCapture (consensus c).nextPhase (s.cfg.settleWaits + 4) c (consensus c) true := rfl
  have hticks : ticksWords (1 + interpretTicks s (consensus c)) =
      tickWord :: ticksWords (interpretTicks s (consensus c)) := by
    rw [Nat.add_comm]
    rfl
  rw [cycleWords, runWords_captureWords _ hok hstarted hphase hintr, hticks,
    runWords_tick (s := s.capturing .validate (s.cfg.settleWaits + 4) c true) (p := .validate) _ hok hstarted rfl,
    hvalidate]
  cases consensus c with
  | invalid => rfl
  | valid sum =>
    have hcommit := runWords_interpretTicks
      (s := s.withCapture .interpret (s.cfg.settleWaits + 4) c (.valid sum) true) hok hstarted rfl rfl hpend
    rw [applyAll_withCapture] at hcommit
    exact hcommit

end Sys2Proof.Machine
end

section
/-! The decoder family, first part: what each step of the edge-capture FSM does to the state (R101 to R108). -/

namespace Sys2Proof.Machine

/-- Settles O11: CYC_START's foreground step, written out register by register. -/
theorem cycStartClearsTheCycle : Obligations.CycStartClearsTheCycle := fun s => exec_phase_instr s .cycStart

/-- Settles O12: WAIT_ENTER's foreground step, written out register by register. -/
theorem waitEnterClearsTheEdgeFlag : Obligations.WaitEnterClearsTheEdgeFlag := fun s => exec_phase_instr s .waitEnter

/-- VALIDATE stores the filter's outcome, and that outcome alone picks the next phase (R108). -/
theorem exec_validate_of_consensus {s : State} {o : DecodeOutcome} (h : consensus s.c = o) :
    exec .validate s = .next ((s.setOut o).goto o.nextPhase) :=
  h ▸ exec_phase_instr s .validate

/-- Settles O16: `exec_validate_of_consensus` for each kind of outcome. -/
theorem validateStoresTheOutcome : Obligations.ValidateStoresTheOutcome := fun _ =>
  ⟨exec_validate_of_consensus, fun _ => exec_validate_of_consensus⟩

theorem eq_nWaitsTotal_pred_iff (s : State) : s.wix = s.cfg.nWaitsTotal - 1 ↔ s.wix + 1 = s.cfg.settleWaits + 5 := by
  simp only [Config.nWaitsTotal, nCounters]
  omega

section Poll

variable {s : State}

/-- R104: the abort is tested before the edge. -/
theorem pollOnce_of_intr (hintr : s.intr = true) : pollOnce s = s.goto .cycStart := by
  simp [pollOnce, hintr]

theorem pollOnce_of_last_edge (hintr : s.intr = false) (hedge : s.edgef = true)
    (hlast : s.wix + 1 = s.cfg.settleWaits + 5) : pollOnce s = s.goto .validate := by
  simp [pollOnce, hintr, hedge, (eq_nWaitsTotal_pred_iff s).mpr hlast]

theorem pollOnce_of_edge (hintr : s.intr = false) (hedge : s.edgef = true)
    (hmore : s.wix + 1 ≠ s.cfg.settleWaits + 5) : pollOnce s = (s.setWix (s.wix + 1)).goto .waitEnter := by
  simp [pollOnce, hintr, hedge, mt (eq_nWaitsTotal_pred_iff s).mp hmore]

theorem pollOnce_of_settling (hintr : s.intr = false) (hedge : s.edgef = false) (hwix : s.wix < s.cfg.settleWaits) :
    pollOnce s = s.goto .waitPoll := by
  simp [pollOnce, hintr, hedge, Nat.not_le.mpr hwix]

theorem pollOnce_of_measuring (hintr : s.intr = false) (hedge : s.edgef = false) (hwix : s.cfg.settleWaits ≤ s.wix) :
    pollOnce s = (s.countTick (s.wix - s.cfg.settleWaits + 1)).goto .waitPoll := by
  simp [pollOnce, hintr, hedge, hwix]

end Poll

/-- A counted tick adds 1 to its counter modulo 2^16 (R104, R107). -/
theorem countTick_get_same (s : State) {k : Nat} (h1 : 1 ≤ k) (h5 : k ≤ 5) :
    ((s.countTick k).c.get k).toNat = ((s.c.get k).toNat + 1) % 65536 := by
  rw [State.countTick_c, Counters.get_set_same s.c h1 h5]
  exact BitVec.toNat_add _ _

/-- Settles O13: one poll in each of its five cases. -/
theorem waitPollAbortsAdvancesOrCounts : Obligations.WaitPollAbortsAdvancesOrCounts := by
  intro s hwix
  have hpoll : exec .waitPoll s = .next (pollOnce s) := exec_phase_instr s .waitPoll
  rw [hpoll]
  refine ⟨fun hintr => ?_, fun hintr hedge hlast => ?_, fun hintr hedge hmore => ?_, fun hintr hedge hsettling => ?_,
    fun hintr hedge hmeasuring => ?_⟩
  · rw [pollOnce_of_intr hintr]
    rfl
  · rw [pollOnce_of_last_edge hintr hedge hlast]
    rfl
  · rw [pollOnce_of_edge hintr hedge hmore]
    rfl
  · rw [pollOnce_of_settling hintr hedge hsettling]
    rfl
  · rw [pollOnce_of_measuring hintr hedge hmeasuring]
    exact ⟨(s.countTick (s.wix - s.cfg.settleWaits + 1)).c, rfl, countTick_get_same s (by omega) (by omega),
      fun j hother => Counters.get_set_other s.c hother _⟩

end Sys2Proof.Machine
end

section
/-! The decoder family, second part: the period-consensus filter (R109 to R111). -/

namespace Sys2Proof.Machine

theorem withinJitter_iff (x y : Nat) : withinJitter x y = true ↔ ((x : Int) - y).natAbs < 5 :=
  decide_eq_true_iff

theorem acceptTriplet_iff (a b c : Word) : acceptTriplet a b c = true ↔ TripletAccepted a b c := by
  rw [acceptTriplet, Bool.and_eq_true, withinJitter_iff, withinJitter_iff, TripletAccepted]

/-- R110: the average of three words is a word, so storing it truncates nothing. -/
theorem avgTriplet_toNat (a b c : Word) : (avgTriplet a b c).toNat = (a.toNat + b.toNat + c.toNat) / 3 :=
  narrow_natCast_toNat (by omega)

/-- R110: the jitter test on `a` and `b` bounds their difference by 4, and the one on their mean and `c` leaves `c` at
most 4 from the mean, which lies between them. -/
theorem TripletAccepted.within_nine {a b c : Word} (h : TripletAccepted a b c) :
    ((a.toNat : Int) - b.toNat).natAbs ≤ 9 ∧ ((a.toNat : Int) - c.toNat).natAbs ≤ 9 ∧
      ((b.toNat : Int) - c.toNat).natAbs ≤ 9 := by
  obtain ⟨hfirst, hmean⟩ := h
  omega

/-- Settles O18: `avgTriplet_toNat`, and the bounds on the members from `TripletAccepted.within_nine`. -/
theorem averageFitsAndTripletIsTight : Obligations.AverageFitsAndTripletIsTight := by
  intro a b c
  have havg := avgTriplet_toNat a b c
  exact ⟨havg, by omega, fun haccept => ((acceptTriplet_iff a b c).mp haccept).within_nine⟩

theorem averagesTo_avgTriplet (a b c : Word) : AveragesTo (.valid (avgTriplet a b c)) a b c :=
  ⟨_, rfl, avgTriplet_toNat a b c⟩

/-- Settles O17: each link of the filter's chain of tests, which are those of R109 by `acceptTriplet_iff`. -/
theorem filterTakesTheEarliestTriplet : Obligations.FilterTakesTheEarliestTriplet := by
  intro c
  simp only [← acceptTriplet_iff, consensus]
  refine ⟨fun h1 => ?_, fun h1 h2 => ?_, fun h1 h2 h3 => ?_, fun h1 h2 h3 => ?_⟩
  · rw [if_pos h1]
    exact averagesTo_avgTriplet _ _ _
  · rw [if_neg h1, if_pos h2]
    exact averagesTo_avgTriplet _ _ _
  · rw [if_neg h1, if_neg h2, if_pos h3]
    exact averagesTo_avgTriplet _ _ _
  · rw [if_neg h1, if_neg h2, if_neg h3]

end Sys2Proof.Machine
end

section
/-! The decoder family, third part: runs inside a wait, which count its ticks (R107) or which a rollover
aborts (R105). -/

namespace Sys2Proof.Machine

/-- A poll that counts and finds the FSM in WAIT_POLL changes the counter of its wait alone (R104). -/
theorem pollOnce_of_counting {s : State} {k : Nat} (hphase : s.phase = Phase.code .waitPoll) (hintr : s.intr = false)
    (hedge : s.edgef = false) (hk : 1 ≤ k) (hwix : s.wix + 1 = s.cfg.settleWaits + k) :
    pollOnce s = s.countTick k := by
  have hindex : s.wix - s.cfg.settleWaits + 1 = k := by omega
  have hstay : (s.countTick k).goto .waitPoll = s.countTick k := by
    rw [State.goto, ← hphase]
    rfl
  rw [pollOnce_of_measuring hintr hedge (by omega), hindex, hstay]

/-- Settles O15: by induction on the number of TICKs, each counted by the poll that it runs. -/
theorem pollsCountSampleTicks : Obligations.PollsCountSampleTicks := by
  intro n
  induction n with
  | zero =>
    intro k s _ _ _ _ _ _ _ _
    rw [Nat.add_zero, BitVec.ofNat_toNat, BitVec.setWidth_eq, Counters.set_get_self]
    rfl
  | succ n ih =>
    intro k s hok hstarted hphase hintr hedge h1 h5 hwix
    have hpoll : s.phaseStep .waitPoll = s.countTick k := pollOnce_of_counting hphase hintr hedge h1 hwix
    have hsum : BitVec.ofNat 16 ((s.c.get k + 1#16).toNat + n) = BitVec.ofNat 16 ((s.c.get k).toNat + (n + 1)) := by
      apply BitVec.eq_of_toNat_eq
      simp only [BitVec.toNat_ofNat, BitVec.toNat_add]
      omega
    rw [ticksWords, List.replicate_succ, runWords_tick (p := .waitPoll) _ hok hstarted hphase, hpoll]
    refine (ih k (s.countTick k) hok hstarted hphase hintr hedge h1 h5 hwix).trans ?_
    rw [State.countTick_c, Counters.get_set_same s.c h1 h5, Counters.set_set_same, hsum]
    rfl

theorem channelUpdate_setEvents (ch : Channel) (s : State) (es : List (BitVec 4)) :
    channelUpdate ch (s.setEvents es) = (channelUpdate ch s).setEvents es := by
  unfold channelUpdate
  rw [State.setEvents_tgt]
  cases classify (s.tgt.get ch) <;> rfl

theorem moveChannels_setEvents (s : State) (es : List (BitVec 4)) :
    moveChannels (s.setEvents es) = (moveChannels s).setEvents es := by
  rw [moveChannels, channelUpdate_setEvents, channelUpdate_setEvents, moveChannels, apply_ite (State.setEvents · es)]
  rfl

theorem ledTick_setEvents (s : State) (ch : Channel) (es : List (BitVec 4)) :
    (s.setEvents es).ledTick ch = (s.ledTick ch).setEvents es := by
  simp only [State.ledTick, apply_ite (State.setEvents · es)]
  rfl

/-- The handler does not read the events to come, and leaves them listed (R196). -/
theorem rolloverHandler_setEvents (s : State) (es : List (BitVec 4)) :
    rolloverHandler (s.setEvents es) = (rolloverHandler s).setEvents es := by
  have hentry : (s.setEvents es).enterRollover = s.enterRollover.setEvents es := rfl
  have hwatchdog (t : State) : (t.setEvents es).watchdogTick = t.watchdogTick.setEvents es := rfl
  simp only [rolloverHandler, State.returnFromRollover]
  rw [hentry, moveChannels_setEvents, hwatchdog, ledTick_setEvents, ledTick_setEvents]

theorem rolloverHandler_phase (s : State) : (rolloverHandler s).phase = s.phase := by
  obtain ⟨tgt, ccr, wd, lt, led, h⟩ := rolloverHandler_frame s
  rw [h]

theorem rolloverHandler_started (s : State) : (rolloverHandler s).started = s.started := by
  obtain ⟨tgt, ccr, wd, lt, led, h⟩ := rolloverHandler_frame s
  rw [h]

theorem rolloverHandler_events (s : State) : (rolloverHandler s).events = s.events := by
  obtain ⟨tgt, ccr, wd, lt, led, h⟩ := rolloverHandler_frame s
  rw [h]

/-- A run over one more ROLLOVER starts after the handler (R180). -/
theorem runWords_rollover {s : State} (ws : List (BitVec 4)) (hok : s.cfg.ok = true) (hstarted : s.started = true) :
    runWords (rolloverWord :: ws) s = runWords ws (rolloverHandler s) := by
  apply runWords_cons hok hstarted
  rw [rolloverHandler_events, ← rolloverHandler_setEvents]
  rfl

/-- A TICK in WAIT_POLL with INTR set abandons the cycle and writes PHASE alone (R104, R105). -/
theorem runWords_tick_of_interrupted {s : State} (hok : s.cfg.ok = true) (hstarted : s.started = true)
    (hphase : s.phase = Phase.code .waitPoll) (hintr : s.intr = true) :
    runWords [tickWord] s = .next (s.goto .cycStart) := by
  rw [runWords_tick [] hok hstarted hphase, runWords_nil, State.phaseStep, pollOnce_of_intr hintr]

/-- An interruption that is there before WAIT_ENTER outlives it, so the first poll of the wait abandons the cycle (R103,
R105). -/
theorem runWords_ticks_of_interrupted_waitEnter {s : State} (hok : s.cfg.ok = true) (hstarted : s.started = true)
    (hphase : s.phase = Phase.code .waitEnter) (hintr : s.intr = true) :
    runWords [tickWord, tickWord] s = .next { s with edgef := false, phase := Phase.code .cycStart } := by
  rw [runWords_tick_of_waitEnter _ hok hstarted hphase]
  exact runWords_tick_of_interrupted (s := (s.setEdgef false).goto .waitPoll) hok hstarted rfl hintr

/-- Settles O48: the handler sets INTR, and the poll that finds it set aborts. -/
theorem rolloverInAWaitAbortsTheCycle : Obligations.RolloverInAWaitAbortsTheCycle := by
  intro s hok hstarted
  have hok' : (rolloverHandler s).cfg.ok = true := by rw [rolloverHandler_cfg, hok]
  have hstarted' : (rolloverHandler s).started = true := (rolloverHandler_started s).trans hstarted
  refine ⟨rolloverHandler s, rfl, fun hpoll => ?_, fun henter => ?_⟩ <;> rw [runWords_rollover _ hok hstarted]
  · exact runWords_tick_of_interrupted hok' hstarted' ((rolloverHandler_phase s).trans hpoll) (rolloverHandler_intr s)
  · exact runWords_ticks_of_interrupted_waitEnter hok' hstarted' ((rolloverHandler_phase s).trans henter)
      (rolloverHandler_intr s)

end Sys2Proof.Machine
end

section
/-! The interpreter family, first part: the writes of a commit, and the Relative mapper (R141, R145 to R149). -/

namespace Sys2Proof

/-- R12(c): the check of a table orders any two of its rows, in whichever order they stand. -/
theorem apart_of_ne {α : Type} {lo hi : α → Word} {bands : List α}
    (hapart : bands.Pairwise fun a b => (hi a).toNat ≤ (lo b).toNat ∨ (hi b).toNat ≤ (lo a).toNat)
    {a b : α} (ha : a ∈ bands) (hb : b ∈ bands) (hne : a ≠ b) :
    (hi a).toNat ≤ (lo b).toNat ∨ (hi b).toNat ≤ (lo a).toNat :=
  have : Std.Symm fun a b : α => (hi a).toNat ≤ (lo b).toNat ∨ (hi b).toNat ≤ (lo a).toNat := ⟨fun _ _ => Or.symm⟩
  hapart.forall ha hb hne

/-- R147: the magnitude grows as the period falls. -/
theorem RelBand.mag_antitone (r : RelBand) {sum sum' : Nat} (h : sum ≤ sum') : r.mag sum' ≤ r.mag sum :=
  Nat.div_le_div_right (Nat.mul_le_mul_right rateSteps (Nat.sub_le_sub_left h r.hi.toNat))

/-- The word written for a row that holds the period has the row's value (R146). -/
theorem RelBand.narrow_value_toNat {r : RelBand} {sum : Nat} (h : r.holds sum = true) :
    (narrow (r.value sum)).toNat = r.value sum := by
  have hvalue := RelBand.value_lt h
  exact narrow_natCast_toNat (by omega)

theorem relWrites_of_relRow_none {bands : List RelBand} {ch : Channel} {sum : Nat} (h : relRow bands ch sum = none) :
    relWrites bands ch sum = [.tgtw ch 0#16] := by
  rw [relWrites, h]

theorem relWrites_of_relRow_some {bands : List RelBand} {ch : Channel} {sum : Nat} {r : RelBand}
    (h : relRow bands ch sum = some r) :
    relWrites bands ch sum = [.tgtw ch (narrow (r.value sum)), .ledtrig ch] := by
  rw [relWrites, h]

/-- A channel in Relative mode writes its target once, and then triggers its indicator or not (R146, R148). -/
theorem relWrites_cases (bands : List RelBand) (ch : Channel) (sum : Nat) :
    ∃ v, relWrites bands ch sum = [.tgtw ch v] ∨ relWrites bands ch sum = [.tgtw ch v, .ledtrig ch] := by
  cases hrow : relRow bands ch sum with
  | none => exact ⟨_, .inl (relWrites_of_relRow_none hrow)⟩
  | some r => exact ⟨_, .inr (relWrites_of_relRow_some hrow)⟩

end Sys2Proof

namespace Sys2Proof.Machine

theorem relHolds_iff_inRow (r : RelBand) (sum : Nat) : r.holds sum = true ↔ InRow r.lo r.hi sum :=
  r.holds_iff sum

theorem relRow_eq_none {bands : List RelBand} {ch : Channel} {sum : Nat}
    (h : ∀ r ∈ bands, r.ch = ch → ¬ InRow r.lo r.hi sum) : relRow bands ch sum = none := by
  rw [relRow, List.find?_eq_none]
  intro r hr
  rw [Bool.and_eq_true, decide_eq_true_eq, relHolds_iff_inRow]
  exact fun ⟨hch, hin⟩ => h r hr hch hin

theorem relRow_eq_some {pre post : List RelBand} {r : RelBand} {sum : Nat} (hin : InRow r.lo r.hi sum)
    (hfirst : ∀ q ∈ pre, q.ch = r.ch → ¬ InRow q.lo q.hi sum) :
    relRow (pre ++ r :: post) r.ch sum = some r := by
  have hpre : relRow pre r.ch sum = none := relRow_eq_none hfirst
  rw [relRow] at hpre ⊢
  rw [List.find?_append, hpre, Option.none_or]
  apply List.find?_cons_of_pos
  rw [Bool.and_eq_true, decide_eq_true_eq, relHolds_iff_inRow]
  exact ⟨rfl, hin⟩

/-- Settles O25: the row that the mapper finds is the first of its channel that holds the period. -/
theorem relativeTargetsFollowTheFirstRow : Obligations.RelativeTargetsFollowTheFirstRow := by
  intro cfg sum
  refine ⟨fun ch => relWrites cfg.relBands ch sum, rfl, fun ch => ⟨fun hnone => ?_, ?_⟩⟩
  · exact relWrites_of_relRow_none (relRow_eq_none hnone)
  · rintro pre r post hbands rfl hin hfirst
    have hrow : relRow cfg.relBands r.ch sum = some r := hbands ▸ relRow_eq_some hin hfirst
    refine ⟨_, relWrites_of_relRow_some hrow, ?_⟩
    rw [RelBand.narrow_value_toNat ((relHolds_iff_inRow r sum).mpr hin), RelBand.value]
    refine ⟨fun hkind => ?_, fun hkind => ?_, fun hkind => ?_⟩ <;> rw [hkind] <;> rfl

/-- Settles O26: rows that lie apart share no period, so the two rows are one. -/
theorem relativePeriodHitsAtMostOneChannel : Obligations.RelativePeriodHitsAtMostOneChannel := by
  intro cfg sum a b hok ha hb ⟨hloa, hhia⟩ ⟨hlob, hhib⟩
  obtain ⟨-, -, ⟨hrel, -⟩, -⟩ := cfg.ok_iff.mp hok
  have hsame : a = b := by
    by_contra hne
    have := apart_of_ne ((bandsApart_relBounds_iff _).mp hrel) ha hb hne
    omega
  rw [hsame]

/-- Settles O27: `RelBand.mag_lt` inside the band, and `RelBand.mag_antitone`. -/
theorem rateMagnitudeIsBoundedAndFalls : Obligations.RateMagnitudeIsBoundedAndFalls := fun r _ _ hin _ =>
  ⟨Nat.le_of_lt_succ (RelBand.mag_lt ((relHolds_iff_inRow r _).mpr hin)), r.mag_antitone⟩

end Sys2Proof.Machine
end

section
/-! The interpreter family, second part: INTERPRET and COMMIT of what a mapper gives, and the Differential mapper (R140,
R142, R150 to R153). -/

namespace Sys2Proof

/-- R151: the value of a channel within DIFF_SPAN of the centre needs no truncation. -/
theorem diffValue_toNat (sg : Sign) {d : Nat} (h : d < 4000) :
    ((diffValue sg d).toNat : Int) = 6000 + sg.toInt * d := by
  apply narrow_toNat <;> cases sg <;> simp only [Sign.toInt, servoCenter, BitVec.toNat_ofNat] <;> omega

/-- R150: channel 1 moves up under FF and FB. -/
theorem add_s1_mul_eq_ite (p : Prim) (d : Int) :
    6000 + p.s1.toInt * d = if p = .ff ∨ p = .fb then 6000 + d else 6000 - d := by
  cases p <;> simp [Prim.s1, Sign.toInt, sub_eq_add_neg]

/-- R150: channel 2 moves up under FF and BF. -/
theorem add_s2_mul_eq_ite (p : Prim) (d : Int) :
    6000 + p.s2.toInt * d = if p = .ff ∨ p = .bf then 6000 + d else 6000 - d := by
  cases p <;> simp [Prim.s2, Sign.toInt, sub_eq_add_neg]

end Sys2Proof

namespace Sys2Proof.Machine

theorem diffHolds_iff_inRow (r : DiffBand) (sum : Nat) : r.holds sum = true ↔ InRow r.lo r.hi sum :=
  r.holds_iff sum

theorem find?_diffBand_eq_none {bands : List DiffBand} {sum : Nat} (h : ∀ r ∈ bands, ¬ InRow r.lo r.hi sum) :
    (bands.find? fun r => r.holds sum) = none := by
  rw [List.find?_eq_none]
  exact fun r hr hholds => h r hr ((diffHolds_iff_inRow r sum).mp hholds)

/-- R153: a period in no row gives an empty list. -/
theorem mapDiff_of_no_row {cfg : Config} {sum : Nat} (h : ∀ r ∈ cfg.diffBands, ¬ InRow r.lo r.hi sum) :
    mapDiff cfg sum = [] := by
  rw [mapDiff, find?_diffBand_eq_none h]

/-- R151: the first row that holds the period decides both targets. -/
theorem mapDiff_of_first_row {cfg : Config} {pre post : List DiffBand} {r : DiffBand} {sum : Nat}
    (hbands : cfg.diffBands = pre ++ r :: post) (hin : InRow r.lo r.hi sum)
    (hfirst : ∀ q ∈ pre, ¬ InRow q.lo q.hi sum) :
    mapDiff cfg sum =
      [.wdclr, .tgtw .ch1 (diffValue r.prim.s1 (r.distance sum)),
        .tgtw .ch2 (diffValue r.prim.s2 (r.distance sum))] := by
  have hrow : (cfg.diffBands.find? fun q => q.holds sum) = some r := by
    rw [hbands, List.find?_append, find?_diffBand_eq_none hfirst, Option.none_or]
    exact List.find?_cons_of_pos ((diffHolds_iff_inRow r sum).mpr hin)
  rw [mapDiff, hrow]

/-- Settles O28: `mapDiff_of_no_row`, and `mapDiff_of_first_row` with its two values taken apart by sign. -/
theorem differentialTargetsFollowTheFirstRow : Obligations.DifferentialTargetsFollowTheFirstRow := by
  refine fun cfg sum => ⟨mapDiff_of_no_row, fun pre r post hbands hin hfirst => ?_⟩
  have hdistance := DiffBand.distance_lt ((diffHolds_iff_inRow r sum).mpr hin)
  obtain ⟨hlo1, hhi1⟩ := diffValue_toNat_bounds r.prim.s1 hdistance
  obtain ⟨hlo2, hhi2⟩ := diffValue_toNat_bounds r.prim.s2 hdistance
  exact ⟨_, _, r.distance sum, mapDiff_of_first_row hbands hin hfirst, rfl,
    (diffValue_toNat _ hdistance).trans (add_s1_mul_eq_ite _ _),
    (diffValue_toNat _ hdistance).trans (add_s2_mul_eq_ite _ _), hlo1, hhi1, hlo2, hhi2⟩

/-- A bound of one row lies in no row of a table whose rows are proper and lie apart (R12(b), R12(c)). -/
theorem not_inRow_of_bound {bands : List DiffBand} (hproper : ∀ r ∈ bands, r.lo.toNat < r.hi.toNat)
    (hapart : bands.Pairwise fun a b => a.hi.toNat ≤ b.lo.toNat ∨ b.hi.toNat ≤ a.lo.toNat) {r q : DiffBand}
    (hr : r ∈ bands) (hq : q ∈ bands) {sum : Word} (hbound : sum = r.lo ∨ sum = r.hi) :
    ¬ InRow q.lo q.hi sum.toNat := by
  rintro ⟨hlo, hhi⟩
  have hrproper := hproper r hr
  by_cases heq : r = q
  · subst heq
    rcases hbound with rfl | rfl <;> omega
  · have := apart_of_ne hapart hr hq heq
    rcases hbound with rfl | rfl <;> omega

theorem deliver_nil (s : State) : deliver [] s = s.goto .cycStart := by
  rcases deliver_cases [] s with ⟨_, h⟩ | ⟨_, _, h⟩ | ⟨_, hne, _⟩
  · exact h
  · exact h
  · exact absurd rfl hne

theorem deliver_of_staged {s : State} {ws : List Write} (h : s.cfg.atomicCommit = false) (hne : ws ≠ []) :
    deliver ws s = (s.setPend ws).goto .commit := by
  rcases deliver_cases ws s with ⟨hatomic, _⟩ | ⟨_, hnil, _⟩ | ⟨_, _, heq⟩
  · exact absurd (h.symm.trans hatomic) Bool.false_ne_true
  · exact absurd hnil hne
  · exact heq

/-- INTERPRET of a Valid period delivers the list of its mode (R91, R140). -/
theorem exec_interpret_of_valid {s : State} {sum : Word} (hout : s.out = .valid sum) :
    exec .interpret s = .next (deliver (writeList s.cfg s.mode s.tgt sum.toNat) s) :=
  (exec_phase_instr s .interpret).trans (congrArg _ (phaseStep_interpret_of_valid hout))

/-- An empty list changes PHASE alone, staged or not (R140). -/
theorem exec_interpret_of_nil {s : State} {sum : Word} (hout : s.out = .valid sum)
    (hnil : writeList s.cfg s.mode s.tgt sum.toNat = []) : exec .interpret s = .next (s.goto .cycStart) := by
  rw [exec_interpret_of_valid hout, hnil, deliver_nil]

/-- Settles O29: in both cases no row holds the period, and the empty list changes PHASE alone. -/
theorem differentialBoundaryChangesNothing : Obligations.DifferentialBoundaryChangesNothing := by
  intro s sum hok hmode hout hcase
  obtain ⟨-, ⟨-, hproper⟩, ⟨-, hapart⟩, -⟩ := s.cfg.ok_iff.mp hok
  rw [bandsProper_diffBounds_iff] at hproper
  rw [bandsApart_diffBounds_iff] at hapart
  have hnone : ∀ q ∈ s.cfg.diffBands, ¬ InRow q.lo q.hi sum.toNat := by
    rcases hcase with ⟨r, hr, hbound⟩ | hnone
    · exact fun q hq => not_inRow_of_bound hproper hapart hr hq hbound
    · exact hnone
  have hnil : writeList s.cfg s.mode s.tgt sum.toNat = [] := by
    rw [hmode]
    exact mapDiff_of_no_row hnone
  exact exec_interpret_of_nil hout hnil

/-- Settles O19: the list is that of `writeList`, and `deliver` has its three cases. -/
theorem interpretDeliversTheWriteList : Obligations.InterpretDeliversTheWriteList := by
  intro s sum ws hout hws
  have hlist : writeList s.cfg s.mode s.tgt sum.toNat = ws := hws.symm
  have hexec : exec .interpret s = .next (deliver ws s) := hlist ▸ exec_interpret_of_valid hout
  rw [hexec]
  refine ⟨fun hatomic => ?_, fun _ hnil => ?_, fun hstaged hne => ?_⟩
  · rw [deliver_of_atomic ws hatomic]
    rfl
  · rw [hnil, deliver_nil]
    rfl
  · rw [deliver_of_staged hstaged hne]
    rfl

/-- Settles O22: `commitOnce_of_pend_cons`, with the phase that what is left pending asks for. -/
theorem commitAppliesTheFirstPendingWrite : Obligations.CommitAppliesTheFirstPendingWrite := by
  intro s w rest hpend
  have hexec : exec .commit s = .next (((applyWrite w s).setPend rest).goto (commitPhase rest)) :=
    (exec_phase_instr s .commit).trans (congrArg _ (commitOnce_of_pend_cons hpend))
  rw [hexec]
  cases rest with
  | nil => exact ⟨fun _ => rfl, fun hne => absurd rfl hne⟩
  | cons v vs => exact ⟨fun hnil => (List.cons_ne_nil v vs hnil).elim, fun _ => rfl⟩

end Sys2Proof.Machine
end

section
/-! The interpreter family, third part: the Absolute mapper with its hysteresis (R155 to R158), and the order of the
write lists of all modes (R141). -/

namespace Sys2Proof

theorem beyondHysteresis_iff (v : Int) (old : Word) : beyondHysteresis v old = true ↔ 100 < (v - old.toNat).natAbs :=
  decide_eq_true_iff

theorem absHolds_iff (cfg : Config) (ch : Channel) (sum : Nat) :
    absHolds cfg ch sum = true ↔ absEdge cfg ch - 250 < sum ∧ (sum : Int) < absEdge cfg ch :=
  inBand_iff _ _ sum

/-- The band edges of the two channels are ABS2_OFFSET_MAG apart, one way or the other (R155). -/
theorem absEdge_ch2_cases (cfg : Config) :
    absEdge cfg .ch2 = absEdge cfg .ch1 + 350 ∨ absEdge cfg .ch2 = absEdge cfg .ch1 - 350 := by
  cases h : cfg.abs2Sign <;> simp [absEdge, h, Sign.toInt, abs2OffsetMag, sub_eq_add_neg]

/-- The Absolute bands of the two channels are narrower than their edges are apart, so they share no period (R155). -/
theorem absHolds_unique {cfg : Config} {ch ch' : Channel} {sum : Nat} (h : absHolds cfg ch sum = true)
    (h' : absHolds cfg ch' sum = true) : ch = ch' := by
  rw [absHolds_iff] at h h'
  have hedges := absEdge_ch2_cases cfg
  cases ch <;> cases ch'
  case ch1.ch1 => rfl
  case ch2.ch2 => rfl
  all_goals omega

theorem absHolds_other {cfg : Config} {ch ch' : Channel} {sum : Nat} (h : absHolds cfg ch sum = true) (hne : ch ≠ ch') :
    ¬ absHolds cfg ch' sum = true := fun h' => hne (absHolds_unique h h')

/-- The period moves the target of a channel: it lies in the channel's band, and its value lies beyond the hysteresis
(R157, R158). -/
def AbsMoves (cfg : Config) (tgt : PerChannel Word) (ch : Channel) (sum : Nat) : Prop :=
  absHolds cfg ch sum = true ∧ beyondHysteresis (absValue cfg ch sum) (tgt.get ch) = true

theorem absWrites_of_moves {cfg : Config} {tgt : PerChannel Word} {ch : Channel} {sum : Nat}
    (h : AbsMoves cfg tgt ch sum) :
    absWrites cfg tgt ch sum = [.tgtw ch (narrow (absValue cfg ch sum)), .ledtrig ch] := by
  rw [absWrites, if_pos (Bool.and_eq_true _ _ ▸ h)]

theorem absWrites_of_not_moves {cfg : Config} {tgt : PerChannel Word} {ch : Channel} {sum : Nat}
    (h : ¬ AbsMoves cfg tgt ch sum) : absWrites cfg tgt ch sum = [] := by
  rw [absWrites, if_neg (Bool.and_eq_true _ _ ▸ h)]

/-- R158: a period that moves a channel gives that channel's writes alone. -/
theorem mapAbs_of_moves {cfg : Config} {tgt : PerChannel Word} {ch : Channel} {sum : Nat}
    (h : AbsMoves cfg tgt ch sum) :
    mapAbs cfg tgt sum = [.wdclr, .tgtw ch (narrow (absValue cfg ch sum)), .ledtrig ch] := by
  have hother (ch' : Channel) (hne : ch ≠ ch') : absWrites cfg tgt ch' sum = [] :=
    absWrites_of_not_moves fun hmoves => absHolds_other h.1 hne hmoves.1
  cases ch with
  | ch1 =>
    rw [mapAbs, absWrites_of_moves h, hother .ch2 (by decide)]
    rfl
  | ch2 =>
    rw [mapAbs, absWrites_of_moves h, hother .ch1 (by decide)]
    rfl

theorem mapAbs_of_not_moves {cfg : Config} {tgt : PerChannel Word} {sum : Nat} (h : ∀ ch, ¬ AbsMoves cfg tgt ch sum) :
    mapAbs cfg tgt sum = [] := by
  rw [mapAbs, absWrites_of_not_moves (h .ch1), absWrites_of_not_moves (h .ch2)]
  rfl

/-- What the Absolute mapper gives (R158). -/
theorem mapAbs_cases (cfg : Config) (tgt : PerChannel Word) (sum : Nat) :
    (∃ ch, AbsMoves cfg tgt ch sum ∧
      mapAbs cfg tgt sum = [.wdclr, .tgtw ch (narrow (absValue cfg ch sum)), .ledtrig ch]) ∨
    ((∀ ch, ¬ AbsMoves cfg tgt ch sum) ∧ mapAbs cfg tgt sum = []) := by
  by_cases h : ∃ ch, AbsMoves cfg tgt ch sum
  · obtain ⟨ch, hmoves⟩ := h
    exact .inl ⟨ch, hmoves, mapAbs_of_moves hmoves⟩
  · rw [not_exists] at h
    exact .inr ⟨h, mapAbs_of_not_moves h⟩

end Sys2Proof

namespace Sys2Proof.Machine

theorem bandEdge_eq_absEdge (cfg : Config) (ch : Channel) : bandEdge cfg ch = absEdge cfg ch := by
  cases ch with
  | ch1 => rfl
  | ch2 => cases h : cfg.abs2Sign <;> simp [bandEdge, absEdge, h, Sign.toInt, abs2OffsetMag, sub_eq_add_neg]

/-- The writes of one channel, as R141 allows them. -/
def WritesOf (ch : Channel) (ws : List Write) : Prop := ∀ w ∈ ws, (∃ v, w = .tgtw ch v) ∨ w = .ledtrig ch

theorem writesOf_nil (ch : Channel) : WritesOf ch [] := List.forall_mem_nil _

theorem writesOf_tgtw (ch : Channel) (v : Word) : WritesOf ch [.tgtw ch v] :=
  List.forall_mem_singleton.mpr (.inl ⟨v, rfl⟩)

theorem writesOf_tgtw_ledtrig (ch : Channel) (v : Word) : WritesOf ch [.tgtw ch v, .ledtrig ch] :=
  List.forall_mem_cons.mpr ⟨.inl ⟨v, rfl⟩, List.forall_mem_singleton.mpr (.inr rfl)⟩

/-- R141: the list is empty, or WDCLR and then the writes of channel 1 before those of channel 2, a ServoTarget
among them. -/
def WellOrdered (ws : List Write) : Prop :=
  ws = [] ∨
  ∃ w1 w2, ws = .wdclr :: (w1 ++ w2) ∧ WritesOf .ch1 w1 ∧ WritesOf .ch2 w2 ∧ ∃ ch v, Write.tgtw ch v ∈ w1 ++ w2

theorem mapAbs_wellOrdered (cfg : Config) (tgt : PerChannel Word) (sum : Nat) : WellOrdered (mapAbs cfg tgt sum) := by
  rcases mapAbs_cases cfg tgt sum with ⟨ch, -, hlist⟩ | ⟨-, hnil⟩
  · refine .inr ?_
    cases ch with
    | ch1 => exact ⟨_, [], hlist, writesOf_tgtw_ledtrig _ _, writesOf_nil _, _, _, List.mem_cons_self⟩
    | ch2 => exact ⟨[], _, hlist, writesOf_nil _, writesOf_tgtw_ledtrig _ _, _, _, List.mem_cons_self⟩
  · exact .inl hnil

theorem relWrites_writesOf (bands : List RelBand) (ch : Channel) (sum : Nat) :
    WritesOf ch (relWrites bands ch sum) := by
  obtain ⟨v, h | h⟩ := relWrites_cases bands ch sum <;> rw [h]
  · exact writesOf_tgtw ch v
  · exact writesOf_tgtw_ledtrig ch v

theorem exists_tgtw_mem_relWrites (bands : List RelBand) (ch : Channel) (sum : Nat) :
    ∃ v, Write.tgtw ch v ∈ relWrites bands ch sum := by
  obtain ⟨v, h | h⟩ := relWrites_cases bands ch sum <;> exact ⟨v, h ▸ List.mem_cons_self⟩

theorem mapRel_wellOrdered (cfg : Config) (sum : Nat) : WellOrdered (mapRel cfg sum) := by
  obtain ⟨v, hmem⟩ := exists_tgtw_mem_relWrites cfg.relBands .ch1 sum
  exact .inr ⟨_, _, rfl, relWrites_writesOf _ _ _, relWrites_writesOf _ _ _, .ch1, v, List.mem_append_left _ hmem⟩

theorem mapDiff_wellOrdered (cfg : Config) (sum : Nat) : WellOrdered (mapDiff cfg sum) := by
  unfold mapDiff
  split
  case h_1 => exact .inl rfl
  case h_2 r hrow => exact .inr ⟨[_], [_], rfl, writesOf_tgtw _ _, writesOf_tgtw _ _, .ch1, _, List.mem_cons_self⟩

theorem writeList_wellOrdered (cfg : Config) (mode : OpMode) (tgt : PerChannel Word) (sum : Nat) :
    WellOrdered (writeList cfg mode tgt sum) := by
  cases mode with
  | absolute => exact mapAbs_wellOrdered cfg tgt sum
  | relative => exact mapRel_wellOrdered cfg sum
  | differential => exact mapDiff_wellOrdered cfg sum

/-- Settles O21: the register laws of each kind of write, and `writeList_wellOrdered`. -/
theorem writesAndTheirOrder : Obligations.WritesAndTheirOrder := by
  refine ⟨fun s ch v => ⟨?_, ?_, rfl⟩, writeList_wellOrdered⟩
  · exact ⟨s.tgt.set ch v, rfl, PerChannel.get_set_same _ _ _, fun o ho => PerChannel.get_set_other _ ho _⟩
  · refine ⟨s.led.set ch true, s.lt.set ch 0#16, rfl, PerChannel.get_set_same _ _ _, ?_, fun o ho => ?_⟩
    · rw [PerChannel.get_set_same]
      rfl
    · exact ⟨PerChannel.get_set_other _ ho _, PerChannel.get_set_other _ ho _⟩

/-- Settles O30: the period moves the channel whose band holds it exactly when the value lies beyond the hysteresis. -/
theorem absoluteTargetsFollowTheBandEdge : Obligations.AbsoluteTargetsFollowTheBandEdge := by
  intro cfg tgt sum
  simp only [bandEdge_eq_absEdge]
  refine ⟨fun ch hlow hhigh => ?_, fun hnone => ?_⟩
  · have hholds : absHolds cfg ch sum = true := (absHolds_iff cfg ch sum).mpr ⟨hlow, hhigh⟩
    have hvalue := narrow_absValue_toNat hholds
    obtain ⟨hmin, hmax, -⟩ := narrow_absValue_toNat_steps hholds
    refine ⟨narrow (absValue cfg ch sum), hvalue, hmin, hmax, fun hbeyond => ?_, fun hwithin => ?_⟩
    · rw [hvalue, ← beyondHysteresis_iff] at hbeyond
      exact mapAbs_of_moves ⟨hholds, hbeyond⟩
    · rw [hvalue, ← not_lt, ← beyondHysteresis_iff] at hwithin
      refine mapAbs_of_not_moves fun ch' ⟨hholds', hbeyond⟩ => hwithin ?_
      rwa [absHolds_unique hholds hholds']
  · exact mapAbs_of_not_moves fun ch hmoves => hnone ch ((absHolds_iff cfg ch sum).mp hmoves.1)

/-- R157: once its list is applied, the period moves no channel any more. -/
theorem not_absMoves_applyAll_mapAbs (s : State) (sum : Nat) (ch : Channel) :
    ¬ AbsMoves s.cfg (applyAll (mapAbs s.cfg s.tgt sum) s).tgt ch sum := by
  rcases mapAbs_cases s.cfg s.tgt sum with ⟨moved, ⟨hholds, -⟩, hlist⟩ | ⟨hnone, hnil⟩
  · have htgt : (applyAll (mapAbs s.cfg s.tgt sum) s).tgt = s.tgt.set moved (narrow (absValue s.cfg moved sum)) := by
      rw [hlist]
      rfl
    rintro ⟨hholds', hbeyond⟩
    obtain rfl := absHolds_unique hholds hholds'
    rw [htgt, PerChannel.get_set_same, beyondHysteresis_iff, narrow_absValue_toNat hholds] at hbeyond
    omega
  · rw [hnil]
    exact hnone ch

/-- Settles O31: after the first INTERPRET the period moves no channel, so the second finds nothing to write. -/
theorem absoluteCommitIsNotRepeated : Obligations.AbsoluteCommitIsNotRepeated := by
  intro s t sum hmode hatomic hout hexec
  rw [exec_interpret_of_atomic hatomic hout, hmode] at hexec
  obtain rfl : (applyAll (mapAbs s.cfg s.tgt sum.toNat) s).goto .cycStart = t := Host.Outcome.next.inj hexec
  have hsettled := not_absMoves_applyAll_mapAbs s sum.toNat
  have hframe := applyAll_frame (mapAbs s.cfg s.tgt sum.toNat) s
  generalize applyAll (mapAbs s.cfg s.tgt sum.toNat) s = u at hsettled hframe ⊢
  have hcfg : u.cfg = s.cfg := by rw [hframe]
  have hnil : mapAbs u.cfg u.tgt sum.toNat = [] := by
    rw [hcfg]
    exact mapAbs_of_not_moves hsettled
  refine ⟨fun ch hlow hhigh => ?_, hnil, fun wd lt led => ?_⟩
  · rw [bandEdge_eq_absEdge] at hlow hhigh ⊢
    rw [← not_lt]
    intro hbeyond
    exact hsettled ch ⟨(absHolds_iff _ _ _).mpr ⟨hlow, hhigh⟩, (beyondHysteresis_iff _ _).mpr hbeyond⟩
  · have hout' : u.out = .valid sum := by rw [hframe, hout]
    have hmode' : u.mode = .absolute := by rw [hframe, hmode]
    refine exec_interpret_of_nil (sum := sum) hout' ?_
    change writeList u.cfg u.mode u.tgt sum.toNat = []
    rw [hmode']
    exact hnil

end Sys2Proof.Machine
end

section
/-! The ramp family, first part: the compare value that a command word gives, and the command words as operations (R183 to
R187). -/

namespace Sys2Proof

/-- INC is exact: the sum is cut at SERVO_MAX, which fits u16 (R184). -/
theorem incResult_toNat (cfg : Config) (v c : Word) :
    (Machine.incResult cfg v c).toNat = min (c.toNat + v.toNat) cfg.servoMax.toNat :=
  narrow_natCast_toNat (by omega)

/-- DEC is exact while the decrement is not negative (R12(e), R185). -/
theorem decResult_toNat {cfg : Config} {v : Word} (h : cfg.servoRate.toNat ≤ v.toNat) (c : Word) :
    ((Machine.decResult cfg v c).toNat : Int) =
      max ((c.toNat : Int) - ((v.toNat : Int) - cfg.servoRate.toNat)) cfg.servoMin.toNat :=
  narrow_toNat (by omega) (by omega)

/-- The compare value that the command word `v` gives a channel whose compare value is `c` (R180, R183 to R187);
`channelUpdate_eq` and `exec_decodeCommand` tie it to the model. -/
def rampWord (cfg : Config) (v c : Word) : Word :=
  match classify v with
  | .abs => v
  | .inc => Machine.incResult cfg v c
  | .dec => Machine.decResult cfg v c
  | .stop => c
  | .rsvd => c

theorem rampWord_of_abs {v : Word} (h : classify v = .abs) (cfg : Config) (c : Word) : rampWord cfg v c = v := by
  simp [rampWord, h]

theorem rampWord_of_inc {v : Word} (h : classify v = .inc) (cfg : Config) (c : Word) :
    rampWord cfg v c = Machine.incResult cfg v c := by
  simp [rampWord, h]

theorem rampWord_of_dec {v : Word} (h : classify v = .dec) (cfg : Config) (c : Word) :
    rampWord cfg v c = Machine.decResult cfg v c := by
  simp [rampWord, h]

theorem rampWord_of_stop {v : Word} (h : classify v = .stop) (cfg : Config) (c : Word) : rampWord cfg v c = c := by
  simp [rampWord, h]

theorem rampWord_of_rsvd {v : Word} (h : classify v = .rsvd) (cfg : Config) (c : Word) : rampWord cfg v c = c := by
  simp [rampWord, h]

/-- The update of a channel by the range of its command word (R82, R183 to R187). -/
theorem rampWord_by_range {cfg : Config} (hrate : cfg.servoRate.toNat ≤ 32) (v c : Word) :
    (2000 < v.toNat → rampWord cfg v c = v) ∧
    (1 ≤ v.toNat → v.toNat ≤ 31 → (rampWord cfg v c).toNat = min (c.toNat + v.toNat) cfg.servoMax.toNat) ∧
    (32 ≤ v.toNat → v.toNat ≤ 63 →
      ((rampWord cfg v c).toNat : Int) =
        max ((c.toNat : Int) - (v.toNat - cfg.servoRate.toNat)) cfg.servoMin.toNat) ∧
    (v.toNat = 0 ∨ (64 ≤ v.toNat ∧ v.toNat ≤ 2000) → rampWord cfg v c = c) := by
  refine ⟨fun habs => ?_, fun hlo hhi => ?_, fun hlo hhi => ?_, ?_⟩
  · exact rampWord_of_abs ((classify_eq_iff v .abs).mpr habs) cfg c
  · rw [rampWord_of_inc ((classify_eq_iff v .inc).mpr ⟨hlo, hhi⟩), incResult_toNat]
  · rw [rampWord_of_dec ((classify_eq_iff v .dec).mpr ⟨hlo, hhi⟩), decResult_toNat (hrate.trans hlo)]
  · rintro (hstop | hrsvd)
    · exact rampWord_of_stop ((classify_eq_iff v .stop).mpr hstop) cfg c
    · exact rampWord_of_rsvd ((classify_eq_iff v .rsvd).mpr hrsvd) cfg c

/-- Up to 31 a command word adds its value, STOP adding 0 to a compare value that SERVO_MAX does not cut (R184, R186). -/
theorem rampWord_toNat_of_le_31 {cfg : Config} {v c : Word} (hv : v.toNat ≤ 31) (hc : c.toNat ≤ cfg.servoMax.toNat) :
    (rampWord cfg v c).toNat = min (c.toNat + v.toNat) cfg.servoMax.toNat := by
  by_cases hzero : v.toNat = 0
  · rw [rampWord_of_stop ((classify_eq_iff v .stop).mpr hzero), hzero, Nat.add_zero, Nat.min_eq_left hc]
  · rw [rampWord_of_inc ((classify_eq_iff v .inc).mpr ⟨Nat.pos_of_ne_zero hzero, hv⟩), incResult_toNat]

end Sys2Proof

namespace Sys2Proof.Machine

theorem setCcr_get_self (s : State) (ch : Channel) : s.setCcr ch (s.ccr.get ch) = s := by
  rw [State.setCcr, PerChannel.set_get_self]

/-- The handler's update of a channel, class by class (R180). -/
theorem channelUpdate_eq (ch : Channel) (s : State) :
    channelUpdate ch s = s.setCcr ch (rampWord s.cfg (s.tgt.get ch) (s.ccr.get ch)) := by
  unfold channelUpdate rampWord
  cases classify (s.tgt.get ch) <;> rfl

/-- A command word run as an operation of its own updates its channel as the handler does (R80, R180). -/
theorem exec_decodeCommand (ch : Channel) (v : Word) (s : State) :
    exec (decodeCommand ch v) s = .next (s.setCcr ch (rampWord s.cfg v (s.ccr.get ch))) := by
  have hrange := range_classify v
  cases hclass : classify v <;> rw [hclass] at hrange
  case abs =>
    rw [decodeCommand_of_abs ch hclass, rampWord_of_abs hclass]
    rfl
  case rsvd =>
    rw [decodeCommand_of_rsvd ch hclass, rampWord_of_rsvd hclass]
    rfl
  case dec =>
    obtain ⟨hlo, hhi⟩ := hrange
    have hrun : exec (.dec ch (magField v)) s = .next (decEffect ch (decWord (magField v)) s) := rfl
    rw [decodeCommand_of_dec ch hclass, rampWord_of_dec hclass, hrun, decWord_magField hlo hhi]
    rfl
  case stop =>
    rw [decodeCommand_of_stop ch hclass, rampWord_of_stop hclass]
    rfl
  case inc =>
    obtain ⟨-, hhi⟩ := hrange
    have hrun : exec (.inc ch (magField v)) s = .next (incEffect ch (incWord (magField v)) s) := rfl
    rw [decodeCommand_of_inc ch hclass, rampWord_of_inc hclass, hrun, incWord_magField (by omega)]
    rfl

/-- Settles O33: the write of one register of CCR. -/
theorem absCommandWritesCompareUnclamped : Obligations.AbsCommandWritesCompareUnclamped := fun s ch v =>
  ⟨s.ccr.set ch v, rfl, PerChannel.get_set_same _ ch v, fun _ ho => PerChannel.get_set_other _ ho v⟩

/-- Settles O36: both write back the compare value that they read. -/
theorem stopAndReservedCommandsHold : Obligations.StopAndReservedCommandsHold := fun s ch _ =>
  ⟨congrArg _ (setCcr_get_self s ch), congrArg _ (setCcr_get_self s ch)⟩

/-- Settles O34: the INC word of magnitude m is m itself, and its sum is exact. -/
theorem incCommandAddsUpToServoMax : Obligations.IncCommandAddsUpToServoMax := by
  intro s ch m
  refine ⟨s.ccr.set ch (incResult s.cfg (incWord m) (s.ccr.get ch)), rfl, ?_,
    fun _ ho => PerChannel.get_set_other _ ho _⟩
  rw [PerChannel.get_set_same, incResult_toNat, incWord_toNat]

/-- Settles O35: the DEC word of magnitude field m is 32 + m, which is at least SERVO_RATE. -/
theorem decCommandSubtractsDownToServoMin : Obligations.DecCommandSubtractsDownToServoMin := by
  intro s ch m hrate
  refine ⟨s.ccr.set ch (decResult s.cfg (decWord m) (s.ccr.get ch)), rfl, ?_,
    fun _ ho => PerChannel.get_set_other _ ho _⟩
  have hword := decWord_toNat m
  rw [PerChannel.get_set_same, decResult_toNat (by omega), hword, Nat.cast_add]
  rfl

/-- Settles O38: the exact minimum of INC and the exact maximum of DEC, under R12(d) and R12(e). -/
theorem rateUpdateKeepsTheRange : Obligations.RateUpdateKeepsTheRange := by
  intro s ch m hok
  obtain ⟨-, -, -, hbounds, hrate, -⟩ := (Config.ok_iff s.cfg).mp hok
  obtain ⟨incCcr, hinc, hincVal, -⟩ := incCommandAddsUpToServoMax s ch m
  obtain ⟨decCcr, hdec, hdecVal, -⟩ := decCommandSubtractsDownToServoMin s ch m hrate
  refine ⟨_, _, hinc, hdec, ?_, ?_, fun hmin hmax => ⟨?_, ?_⟩⟩ <;> dsimp only <;> omega

end Sys2Proof.Machine
end

section
/-! The ramp family, second part: the rollover handler as one equation, and everything that one rollover does (R180 to
R190, R196). -/

namespace Sys2Proof

/-- An IndicatorTimeout that does not wrap passes LED_TIMEOUT exactly from 15 on (R190). -/
theorem ledTimeout_lt_succ_iff {t : Word} (h : t.toNat < 65535) : ledTimeout < (t + 1#16).toNat ↔ 15 ≤ t.toNat := by
  rw [ledTimeout, BitVec.toNat_add, BitVec.toNat_ofNat]
  omega

/-- LT[ch] after a rollover that finds `t` there (R190); `ledTick_eq` ties it to the model. -/
def nextLt (t : Word) : Word := if ledTimeout < (t + 1#16).toNat then 0#16 else t + 1#16

/-- LED[ch] after a rollover that finds `t` in LT[ch] and `b` in LED[ch] (R190). -/
def nextLed (t : Word) (b : Bool) : Bool := if ledTimeout < (t + 1#16).toNat then false else b

theorem nextLt_toNat_of_lt {t : Word} (h : t.toNat < 15) : (nextLt t).toNat = t.toNat + 1 := by
  rw [nextLt, if_neg (by rw [ledTimeout_lt_succ_iff] <;> omega), BitVec.toNat_add, BitVec.toNat_ofNat]
  omega

theorem nextLed_of_lt {t : Word} (h : t.toNat < 15) (b : Bool) : nextLed t b = b :=
  if_neg (by rw [ledTimeout_lt_succ_iff] <;> omega)

theorem nextLt_of_le {t : Word} (hlo : 15 ≤ t.toNat) (hhi : t.toNat < 65535) : nextLt t = 0#16 :=
  if_pos ((ledTimeout_lt_succ_iff hhi).mpr hlo)

theorem nextLed_of_le {t : Word} (hlo : 15 ≤ t.toNat) (hhi : t.toNat < 65535) (b : Bool) : nextLed t b = false :=
  if_pos ((ledTimeout_lt_succ_iff hhi).mpr hlo)

end Sys2Proof

namespace Sys2Proof.Machine

/-- CCR after both channel updates (R180, R194). -/
def State.rampedCcr (s : State) : PerChannel Word :=
  { ch1 := rampWord s.cfg s.tgt.ch1 s.ccr.ch1, ch2 := rampWord s.cfg s.tgt.ch2 s.ccr.ch2 }

/-- TGT after the first part of the handler (R180, R182). -/
def State.movedTgt (s : State) : PerChannel Word := if s.mustRecenter then PerChannel.both servoCenter else s.tgt

/-- CCR after the first part of the handler (R180, R182). -/
def State.movedCcr (s : State) : PerChannel Word :=
  if s.mustRecenter then PerChannel.both servoCenter else s.rampedCcr

/-- LT after both LED ticks (R190). -/
def State.tickedLt (s : State) : PerChannel Word := { ch1 := nextLt s.lt.ch1, ch2 := nextLt s.lt.ch2 }

/-- LED after both LED ticks (R190). -/
def State.tickedLed (s : State) : PerChannel Bool :=
  { ch1 := nextLed s.lt.ch1 s.led.ch1, ch2 := nextLed s.lt.ch2 s.led.ch2 }

theorem rampedCcr_get (s : State) (ch : Channel) :
    s.rampedCcr.get ch = rampWord s.cfg (s.tgt.get ch) (s.ccr.get ch) := by
  cases ch <;> rfl

theorem tickedLt_get (s : State) (ch : Channel) : s.tickedLt.get ch = nextLt (s.lt.get ch) := by
  cases ch <;> rfl

theorem tickedLed_get (s : State) (ch : Channel) : s.tickedLed.get ch = nextLed (s.lt.get ch) (s.led.get ch) := by
  cases ch <;> rfl

/-- The two channel updates do not meet: each reads its own TGT and CCR (R194). -/
theorem channelUpdates_eq (s : State) : channelUpdate .ch2 (channelUpdate .ch1 s) = { s with ccr := s.rampedCcr } := by
  rw [channelUpdate_eq .ch2, channelUpdate_eq .ch1]
  rfl

theorem moveChannels_eq (s : State) : moveChannels s = { s with tgt := s.movedTgt, ccr := s.movedCcr } := by
  rcases moveChannels_cases s with ⟨hmust, hmove⟩ | ⟨hstay, hmove⟩ <;> rw [hmove, State.movedTgt, State.movedCcr]
  · rw [if_pos hmust, if_pos hmust, recenter_eq]
  · rw [hstay, channelUpdates_eq]
    rfl

theorem ledTick_eq (s : State) (ch : Channel) :
    s.ledTick ch =
      { s with
        lt := s.lt.set ch (nextLt (s.lt.get ch))
        led := s.led.set ch (nextLed (s.lt.get ch) (s.led.get ch)) } := by
  unfold State.ledTick nextLt nextLed
  split
  · rfl
  · rw [PerChannel.set_get_self]
    rfl

theorem ledTicks_eq (s : State) : (s.ledTick .ch1).ledTick .ch2 = { s with lt := s.tickedLt, led := s.tickedLed } := by
  rw [ledTick_eq _ .ch2, ledTick_eq _ .ch1]
  rfl

/-- The rollover handler as one equation: every register that it writes, from the state that it finds (R180). -/
theorem rolloverHandler_eq (s : State) :
    rolloverHandler s =
      { s with
        intr := true
        tgt := s.movedTgt
        ccr := s.movedCcr
        wd := narrow (min (s.wd.toNat + 1) s.cfg.servoTimeout.toNat : Nat)
        lt := s.tickedLt
        led := s.tickedLed } := by
  rw [rolloverHandler, State.returnFromRollover, moveChannels_eq, ledTicks_eq]
  rfl

/-- R188: WD counts the rollovers and saturates at SERVO_TIMEOUT. -/
theorem rolloverHandler_wd_toNat (s : State) :
    (rolloverHandler s).wd.toNat = min (s.wd.toNat + 1) s.cfg.servoTimeout.toNat := by
  rw [rolloverHandler_eq]
  exact narrow_natCast_toNat (by omega)

/-- R190: the indicator of each channel ticks once in a rollover. -/
theorem rolloverHandler_lt_get (s : State) (ch : Channel) : (rolloverHandler s).lt.get ch = nextLt (s.lt.get ch) := by
  rw [rolloverHandler_eq]
  exact tickedLt_get s ch

theorem rolloverHandler_led_get (s : State) (ch : Channel) :
    (rolloverHandler s).led.get ch = nextLed (s.lt.get ch) (s.led.get ch) := by
  rw [rolloverHandler_eq]
  exact tickedLed_get s ch

/-- R182: the handler recenters exactly with the watchdog saturated in Differential mode. -/
theorem mustRecenter_iff (s : State) :
    s.mustRecenter = true ↔ s.cfg.servoTimeout.toNat ≤ s.wd.toNat ∧ s.mode = .differential := by
  rw [State.mustRecenter, State.watchdogSaturated, Bool.and_eq_true, decide_eq_true_eq, decide_eq_true_eq]

/-- R182: the recenter puts both targets and both compare values at SERVO_CENTER. -/
theorem rolloverHandler_of_recenter {s : State} (h : s.cfg.servoTimeout.toNat ≤ s.wd.toNat ∧ s.mode = .differential) :
    (rolloverHandler s).tgt = PerChannel.both servoCenter ∧ (rolloverHandler s).ccr = PerChannel.both servoCenter := by
  rw [rolloverHandler_eq]
  exact ⟨if_pos ((mustRecenter_iff s).mpr h), if_pos ((mustRecenter_iff s).mpr h)⟩

/-- R180: without a recenter the targets stay, each compare value follows its command word, and only WD itself is
written from WD (R189). -/
theorem rolloverHandler_eq_of_no_recenter {s : State}
    (h : ¬ (s.cfg.servoTimeout.toNat ≤ s.wd.toNat ∧ s.mode = .differential)) :
    rolloverHandler s =
      { s with
        intr := true
        ccr := s.rampedCcr
        wd := narrow (min (s.wd.toNat + 1) s.cfg.servoTimeout.toNat : Nat)
        lt := s.tickedLt
        led := s.tickedLed } := by
  have hstay : ¬ s.mustRecenter = true := mt (mustRecenter_iff s).mp h
  rw [rolloverHandler_eq, State.movedTgt, State.movedCcr, if_neg hstay, if_neg hstay]

theorem rolloverHandler_of_no_recenter {s : State}
    (h : ¬ (s.cfg.servoTimeout.toNat ≤ s.wd.toNat ∧ s.mode = .differential)) :
    (rolloverHandler s).tgt = s.tgt ∧ (rolloverHandler s).ccr = s.rampedCcr := by
  rw [rolloverHandler_eq_of_no_recenter h]
  exact ⟨rfl, rfl⟩

/-- The recentered registers of a channel, as numbers (R10, R182). -/
theorem rolloverHandler_get_of_recenter {s : State}
    (h : s.cfg.servoTimeout.toNat ≤ s.wd.toNat ∧ s.mode = .differential) (ch : Channel) :
    ((rolloverHandler s).tgt.get ch).toNat = 6000 ∧ ((rolloverHandler s).ccr.get ch).toNat = 6000 := by
  obtain ⟨htgt, hccr⟩ := rolloverHandler_of_recenter h
  rw [htgt, hccr, PerChannel.get_both]
  decide

theorem rolloverHandler_ccr_get_of_no_recenter {s : State}
    (h : ¬ (s.cfg.servoTimeout.toNat ≤ s.wd.toNat ∧ s.mode = .differential)) (ch : Channel) :
    (rolloverHandler s).ccr.get ch = rampWord s.cfg (s.tgt.get ch) (s.ccr.get ch) := by
  rw [(rolloverHandler_of_no_recenter h).2, rampedCcr_get]

/-- The frame of the handler: the registers of R180 and no other (R196). -/
theorem rolloverHandler_eq_writes (s : State) :
    rolloverHandler s =
      { s with
        intr := true
        tgt := (rolloverHandler s).tgt
        ccr := (rolloverHandler s).ccr
        wd := (rolloverHandler s).wd
        lt := (rolloverHandler s).lt
        led := (rolloverHandler s).led } := by
  rw [rolloverHandler_eq]

/-- Settles O39: the frame, and one rule for each register of the handler. -/
theorem rolloverHandlerEffect : Obligations.RolloverHandlerEffect := by
  intro s hrate
  refine ⟨_, _, _, _, _, congrArg _ (rolloverHandler_eq_writes s), rolloverHandler_wd_toNat s, fun ch =>
    ⟨fun hwd hmode => rolloverHandler_get_of_recenter ⟨hwd, hmode⟩ ch, fun hstay => ?_, fun hlt => ?_,
      fun hlo hhi => ?_⟩⟩
  · rw [(rolloverHandler_of_no_recenter hstay).1, rolloverHandler_ccr_get_of_no_recenter hstay]
    exact ⟨rfl, rampWord_by_range hrate _ _⟩
  · rw [rolloverHandler_lt_get, rolloverHandler_led_get]
    exact ⟨nextLt_toNat_of_lt hlt, nextLed_of_lt hlt _⟩
  · rw [rolloverHandler_lt_get, rolloverHandler_led_get, nextLt_of_le hlo hhi]
    exact ⟨rfl, nextLed_of_le hlo hhi _⟩

/-- Settles O40: each command word updates its channel as the handler does, and the updates do not read INTR. -/
theorem rolloverRunsTheCommandWords : Obligations.RolloverRunsTheCommandWords := by
  intro s hstay
  obtain ⟨htgt, hccr⟩ := rolloverHandler_of_no_recenter hstay
  exact ⟨_, _, rolloverHandler s, exec_decodeCommand .ch1 _ s, exec_decodeCommand .ch2 _ _, rfl, hccr, htgt⟩

/-- R189: outside Differential mode the watchdog reaches no register of the handler but WD. -/
theorem rolloverHandler_setWd {s : State} (hmode : s.mode ≠ .differential) (w : Word) :
    rolloverHandler (s.setWd w) = (rolloverHandler s).setWd (rolloverHandler (s.setWd w)).wd := by
  rw [rolloverHandler_eq_of_no_recenter fun hrecenter => hmode hrecenter.2,
    rolloverHandler_eq_of_no_recenter (s := s.setWd w) fun hrecenter => hmode hrecenter.2]
  rfl

/-- Settles O41: there is no recenter outside Differential mode, whatever WD is. -/
theorem watchdogHasNoEffectOutsideDifferential : Obligations.WatchdogHasNoEffectOutsideDifferential := by
  intro s w hrate hmode
  refine ⟨_, _, rfl, rfl, rolloverHandler_setWd hmode w, rolloverHandler_tgt_of_not_differential hmode, fun ch => ?_⟩
  rw [rolloverHandler_ccr_get_of_no_recenter fun hrecenter => hmode hrecenter.2]
  exact rampWord_by_range hrate _ _

end Sys2Proof.Machine
end

section
/-! The ramp family, third part: runs of rollovers (R193). -/

namespace Sys2Proof.Machine

theorem iterate_rolloverHandler_cfg (n : Nat) (s : State) : (rolloverHandler^[n] s).cfg = s.cfg := by
  induction n with
  | zero => rfl
  | succ n ih => rw [Function.iterate_succ_apply', rolloverHandler_cfg, ih]

theorem iterate_rolloverHandler_mode (n : Nat) (s : State) : (rolloverHandler^[n] s).mode = s.mode := by
  induction n with
  | zero => rfl
  | succ n ih => rw [Function.iterate_succ_apply', rolloverHandler_mode, ih]

/-- A run of `n` ROLLOVER words from a running state runs the handler `n` times (R92, R180). -/
theorem runWords_rollovers (n : Nat) {s : State} (hok : s.cfg.ok = true) (hstarted : s.started = true) :
    runWords (List.replicate n rolloverWord) s = .next (rolloverHandler^[n] s) := by
  induction n generalizing s with
  | zero => rfl
  | succ n ih =>
    have hok' : (rolloverHandler s).cfg.ok = true := by rw [rolloverHandler_cfg, hok]
    rw [List.replicate_succ, runWords_rollover _ hok hstarted, ih hok' ((rolloverHandler_started s).trans hstarted),
      Function.iterate_succ_apply]

/-- R27: outside Differential mode no number of rollovers writes a target. -/
theorem iterate_rolloverHandler_tgt {s : State} (hmode : s.mode ≠ .differential) (n : Nat) :
    (rolloverHandler^[n] s).tgt = s.tgt := by
  induction n with
  | zero => rfl
  | succ n ih =>
    have hmode' : (rolloverHandler^[n] s).mode ≠ .differential := by rwa [iterate_rolloverHandler_mode]
    rw [Function.iterate_succ_apply', rolloverHandler_tgt_of_not_differential hmode', ih]

/-- R193(a): each rollover adds the target, and SERVO_MAX cuts the sum. -/
theorem iterate_rolloverHandler_ccr_get_toNat {s : State} {ch : Channel} (hmode : s.mode ≠ .differential)
    (htgt : (s.tgt.get ch).toNat ≤ 31) (hccr : (s.ccr.get ch).toNat ≤ s.cfg.servoMax.toNat) (n : Nat) :
    ((rolloverHandler^[n] s).ccr.get ch).toNat =
      min ((s.ccr.get ch).toNat + n * (s.tgt.get ch).toNat) s.cfg.servoMax.toNat := by
  induction n with
  | zero => rw [Function.iterate_zero_apply, Nat.zero_mul, Nat.add_zero, Nat.min_eq_left hccr]
  | succ n ih =>
    have hstay : ¬ ((rolloverHandler^[n] s).cfg.servoTimeout.toNat ≤ (rolloverHandler^[n] s).wd.toNat ∧
        (rolloverHandler^[n] s).mode = .differential) := fun hrecenter =>
      hmode ((iterate_rolloverHandler_mode n s).symm.trans hrecenter.2)
    have hmax : ((rolloverHandler^[n] s).ccr.get ch).toNat ≤ s.cfg.servoMax.toNat := ih ▸ Nat.min_le_right _ _
    rw [Function.iterate_succ_apply', rolloverHandler_ccr_get_of_no_recenter hstay, iterate_rolloverHandler_cfg,
      iterate_rolloverHandler_tgt hmode, rampWord_toNat_of_le_31 htgt hmax, ih, Nat.succ_mul]
    omega

/-- Settles O42: a run of n ROLLOVER words is n handlers, each of which adds the target. -/
theorem repeatedIncrementsStopAtServoMax : Obligations.RepeatedIncrementsStopAtServoMax :=
  fun n _ _ hok hstarted hmode htgt hccr =>
    ⟨_, runWords_rollovers n hok hstarted, iterate_rolloverHandler_ccr_get_toNat hmode htgt hccr n⟩

/-- R193(b), before the timeout: WD counts the rollovers from 0, and below SERVO_TIMEOUT it does not recenter. -/
theorem iterate_rolloverHandler_of_unsaturated {s : State} (hwd : s.wd.toNat = 0) {n : Nat}
    (hn : n ≤ s.cfg.servoTimeout.toNat) :
    (rolloverHandler^[n] s).wd.toNat = n ∧ (rolloverHandler^[n] s).tgt = s.tgt := by
  induction n with
  | zero => exact ⟨hwd, rfl⟩
  | succ n ih =>
    obtain ⟨hcount, htgt⟩ := ih (Nat.le_of_succ_le hn)
    have hcfg := iterate_rolloverHandler_cfg n s
    have hstay : ¬ ((rolloverHandler^[n] s).cfg.servoTimeout.toNat ≤ (rolloverHandler^[n] s).wd.toNat ∧
        (rolloverHandler^[n] s).mode = .differential) := by
      rintro ⟨hsaturated, -⟩
      rw [hcfg, hcount] at hsaturated
      exact absurd hsaturated (Nat.not_le.mpr hn)
    rw [Function.iterate_succ_apply', rolloverHandler_wd_toNat, hcount, hcfg,
      (rolloverHandler_of_no_recenter hstay).1]
    exact ⟨Nat.min_eq_left hn, htgt⟩

/-- Settles O43: SERVO_TIMEOUT rollovers saturate WD, and the next one recenters. -/
theorem watchdogRecentersAfterTheTimeout : Obligations.WatchdogRecentersAfterTheTimeout := by
  intro s hok hstarted hmode hwd
  refine ⟨fun n hn => ⟨_, runWords_rollovers n hok hstarted, iterate_rolloverHandler_of_unsaturated hwd hn⟩,
    _, runWords_rollovers _ hok hstarted, fun ch => ?_⟩
  obtain ⟨hcount, -⟩ := iterate_rolloverHandler_of_unsaturated hwd le_rfl
  rw [Function.iterate_succ_apply']
  apply rolloverHandler_get_of_recenter
  rw [iterate_rolloverHandler_cfg, iterate_rolloverHandler_mode, hcount]
  exact ⟨le_rfl, hmode⟩

/-- R193(c), before the timeout: a lit indicator stays lit, and LT counts the rollovers from 0. -/
theorem iterate_rolloverHandler_of_lit {s : State} {ch : Channel} (hled : s.led.get ch = true)
    (hlt : (s.lt.get ch).toNat = 0) {n : Nat} (hn : n ≤ 15) :
    (rolloverHandler^[n] s).led.get ch = true ∧ ((rolloverHandler^[n] s).lt.get ch).toNat = n := by
  induction n with
  | zero => exact ⟨hled, hlt⟩
  | succ n ih =>
    obtain ⟨hlit, hcount⟩ := ih (Nat.le_of_succ_le hn)
    have hbelow : ((rolloverHandler^[n] s).lt.get ch).toNat < 15 := by rwa [hcount]
    rw [Function.iterate_succ_apply', rolloverHandler_led_get, rolloverHandler_lt_get, nextLed_of_lt hbelow,
      nextLt_toNat_of_lt hbelow, hcount]
    exact ⟨hlit, rfl⟩

/-- Settles O44: after fifteen rollovers LT is 15, and the sixteenth passes LED_TIMEOUT. -/
theorem indicatorGoesOutAtTheSixteenthRollover : Obligations.IndicatorGoesOutAtTheSixteenthRollover := by
  intro s ch hok hstarted hled hlt
  refine ⟨fun n hn => ⟨_, runWords_rollovers n hok hstarted, iterate_rolloverHandler_of_lit hled hlt hn⟩,
    _, runWords_rollovers 16 hok hstarted, ?_⟩
  obtain ⟨-, hcount⟩ := iterate_rolloverHandler_of_lit hled hlt (n := 15) le_rfl
  have hlo : 15 ≤ ((rolloverHandler^[15] s).lt.get ch).toNat := hcount.ge
  have hhi : ((rolloverHandler^[15] s).lt.get ch).toNat < 65535 := by rw [hcount]; decide
  rw [Function.iterate_succ_apply', rolloverHandler_led_get, rolloverHandler_lt_get, nextLed_of_le hlo hhi,
    nextLt_of_le hlo hhi]
  exact ⟨rfl, rfl⟩

end Sys2Proof.Machine
end

section
/-! The exceptions family, first part: why an operation is refused, said once, and the five refusals of a step (R210,
R211). -/

namespace Sys2Proof

theorem phaseOf_eq_none_iff (c : BitVec 3) : phaseOf c = none ↔ 6 ≤ c.toNat := by
  revert c
  decide

/-- R85: the kind bits of an event word, as a number. -/
theorem eventKind_eq_reset_iff (e : BitVec 4) : e.extractLsb' 0 2 = 3#2 ↔ e.toNat % 4 = 3 := by
  revert e
  decide

/-- R85: the pin bits of an event word, as a number. -/
theorem eventPins_eq_zero_iff (e : BitVec 4) : e.extractLsb' 2 2 = 0#2 ↔ e.toNat / 4 = 0 := by
  revert e
  decide

end Sys2Proof

namespace Sys2Proof.Machine

theorem isResetWord_eq_false_iff (e : BitVec 4) : isResetWord e = false ↔ e.toNat % 4 ≠ 3 := by
  rw [isResetWord, decide_eq_false_iff_not, eventKind_eq_reset_iff]

theorem exec_tick_of_reserved {s : State} (h : 6 ≤ s.phase.toNat) : exec .tick s = .refused .reservedPhase := by
  change execTick s = _
  rw [execTick, (phaseOf_eq_none_iff s.phase).mpr h]
  rfl

/-- The reasons for which an operation is refused, each with the refusal that it raises (R89, R211, R240). -/
inductive RefusedFor (s : State) : Instr → Refusal → Prop where
  | phaseReserved (x : BitVec 1) : RefusedFor s (.phaseReserved x) .reservedPhase
  | tick (reserved : 6 ≤ s.phase.toNat) : RefusedFor s .tick .reservedPhase
  | eventMalformed (e : BitVec 4) : RefusedFor s (.eventMalformed e) .malformedEvent
  | reset (p : BitVec 2) (unmapped : s.cfg.modeMap.lookup p = none) : RefusedFor s (.reset p) .modePinsUnmapped

theorem RefusedFor.exec_eq {s : State} {i : Instr} {r : Refusal} (h : RefusedFor s i r) : exec i s = .refused r := by
  cases h with
  | phaseReserved x => rfl
  | tick hreserved => exact exec_tick_of_reserved hreserved
  | eventMalformed e => rfl
  | reset p hunmapped => exact exec_reset_of_unmapped hunmapped

/-- The inversion of `exec` on a refusal, as `exec_effect` is on a next state. -/
theorem exec_refused {i : Instr} {s : State} {r : Refusal} (h : exec i s = .refused r) : RefusedFor s i r := by
  cases i with
  | phaseReserved x =>
    cases h
    exact .phaseReserved x
  | eventMalformed e =>
    cases h
    exact .eventMalformed e
  | tick =>
    rcases Nat.lt_or_ge s.phase.toNat 6 with hlegal | hreserved
    · obtain ⟨t, ht, _⟩ := execTick_next_of_phaseLegal hlegal
      exact nomatch ht.symm.trans h
    · rw [exec_tick_of_reserved hreserved] at h
      cases h
      exact .tick hreserved
  | reset p =>
    cases hm : s.cfg.modeMap.lookup p with
    | none =>
      rw [exec_reset_of_unmapped hm] at h
      cases h
      exact .reset p hm
    | some m => exact nomatch (exec_reset_of_mapped hm).symm.trans h
  | abs | rsvd | dec | stop | inc => exact nomatch h
  | cycStart | waitEnter | waitPoll | validate | interpret | commit => exact nomatch h
  | edge | rollover => exact nomatch h

/-- R210: there is no fault, so an operation goes on or is refused for one of the reasons of R211. -/
theorem exec_next_or_refusedFor (i : Instr) (s : State) : (∃ t, exec i s = .next t) ∨ ∃ r, RefusedFor s i r := by
  cases h : exec i s with
  | next t => exact .inl ⟨t, rfl⟩
  | fault f => exact nomatch f
  | refused r => exact .inr ⟨r, exec_refused h⟩

/-- Settles O51: an operation that does not go on is refused, for a reason of `RefusedFor`. -/
theorem everyOperationGoesOn : Obligations.EveryOperationGoesOn := by
  intro i s
  rcases exec_next_or_refusedFor i s with hnext | ⟨r, hrefused⟩
  · exact .inl hnext
  · cases hrefused with
    | phaseReserved x => exact .inr (.inl ⟨x, rfl⟩)
    | eventMalformed e => exact .inr (.inr (.inl ⟨e, rfl⟩))
    | reset p hunmapped => exact .inr (.inr (.inr (.inl ⟨p, rfl, hunmapped⟩)))
    | tick hreserved => exact .inr (.inr (.inr (.inr ⟨rfl, hreserved⟩)))

theorem step_of_bad_config {s : State} (h : s.cfg.ok = false) : step s = .refused .badConfig :=
  step_of_stop (if_pos h)

/-- Before the first RESET every other event word is refused, before it is decoded (R85; log entry 14). -/
theorem step_of_no_reset {s : State} (hok : s.cfg.ok = true) (hstarted : s.started = false)
    (hkind : isResetWord s.nextEvent = false) : step s = .refused .noReset := by
  have hgood : ¬ s.cfg.ok = false := ne_false_of_eq_true hok
  apply step_of_stop
  rw [fetch, if_neg hgood, if_pos ⟨hstarted, hkind⟩]

/-- A refused step: one of the two refusals of a fetch, or its operation is refused (R211). -/
theorem step_refused {s : State} {r : Refusal} (h : step s = .refused r) :
    r = .badConfig ∨ r = .noReset ∨ RefusedFor s.afterEvent (decodeEvent s.nextEvent) r := by
  rcases fetch_cases s with ⟨_, hf⟩ | ⟨_, _, _, hf⟩ | ⟨_, _, hf⟩
  · rw [step_of_stop hf] at h
    cases h
    exact .inl rfl
  · rw [step_of_stop hf] at h
    cases h
    exact .inr (.inl rfl)
  · exact .inr (.inr (exec_refused ((step_of_run hf).symm.trans h)))

/-- R211: an operation raises three of the five refusals. -/
theorem RefusedFor.refusal_cases {s : State} {i : Instr} {r : Refusal} (h : RefusedFor s i r) :
    r = .modePinsUnmapped ∨ r = .reservedPhase ∨ r = .malformedEvent := by
  cases h with
  | reset p hunmapped => exact .inl rfl
  | phaseReserved x => exact .inr (.inl rfl)
  | tick hreserved => exact .inr (.inl rfl)
  | eventMalformed e => exact .inr (.inr rfl)

/-- Settles O8: each refusal from its reason, and the last clause from `step_refused`. -/
theorem refusalsAreTheFiveNamedOnes : Obligations.RefusalsAreTheFiveNamedOnes := by
  refine ⟨fun s p hunmapped => (RefusedFor.reset p hunmapped).exec_eq, fun s x => (RefusedFor.phaseReserved x).exec_eq,
    fun s hphase => ?reservedPhase, fun s e => (RefusedFor.eventMalformed e).exec_eq,
    fun s e es hok hstarted hevents hkind hpins => ?malformedEvent, fun s hbad => step_of_bad_config hbad,
    fun s e es hok hfresh hevents hkind => ?noReset, fun s r h => ?noOther⟩
  case reservedPhase =>
    have hreserved : 6 ≤ s.phase.toNat := by rcases hphase with h | h <;> rw [h] <;> decide
    exact (RefusedFor.tick hreserved).exec_eq
  case malformedEvent =>
    rw [step_listed hok hstarted hevents, decodeEvent_malformed (mt (eventPins_eq_zero_iff e).mp hpins)
      (mt (eventKind_eq_reset_iff e).mp hkind)]
    exact (RefusedFor.eventMalformed e).exec_eq
  case noReset =>
    apply step_of_no_reset hok hfresh
    rw [State.nextEvent_cons hevents]
    exact (isResetWord_eq_false_iff e).mpr hkind
  case noOther =>
    rcases step_refused h with hbad | hnone | hrefused
    · exact .inr (.inr (.inr (.inl hbad)))
    · exact .inr (.inr (.inr (.inr hnone)))
    · rcases hrefused.refusal_cases with hpins | hphase | hevent
      · exact .inl hpins
      · exact .inr (.inl hphase)
      · exact .inr (.inr (.inl hevent))

end Sys2Proof.Machine
end

section
/-! The exceptions family, second part: the well-formed events are taken (R211, R252), and an EDGE commutes with a ROLLOVER
(R214, R215). -/

namespace Sys2Proof

/-- R85: with the pin bits 0, the three event words that are not a RESET. -/
theorem decodeEvent_of_le_two {e : BitVec 4} (h : e.toNat ≤ 2) :
    decodeEvent e = .tick ∨ decodeEvent e = .edge ∨ decodeEvent e = .rollover := by
  revert e
  decide

end Sys2Proof

namespace Sys2Proof.Machine

/-- No operation touches the events to come: taking one is the fetch's work (R85). -/
theorem exec_next_events {i : Instr} {s t : State} (h : exec i s = .next t) : t.events = s.events := by
  cases exec_effect h with
  | foreground p run => exact (phaseStep_foregroundFrame s p).events
  | rollover => exact rolloverHandler_events s
  | move | hold | edge | reset => rfl

/-- An event word whose operation goes on at a legal PHASE: TICK, EDGE, ROLLOVER, or a RESET with mapped pins (R211). -/
theorem exec_decodeEvent_next {s : State} {e : BitVec 4} (hphase : s.phaseLegal)
    (he : e.toNat ≤ 2 ∨ ∃ p m, e = resetWord p ∧ s.cfg.modeMap.lookup p = some m) :
    ∃ t, exec (decodeEvent e) s = .next t := by
  rcases he with hkind | ⟨p, m, rfl, hmapped⟩
  · rcases decodeEvent_of_le_two hkind with hi | hi | hi <;> rw [hi]
    · obtain ⟨t, ht, _⟩ := execTick_next_of_phaseLegal hphase
      exact ⟨t, ht⟩
    · exact ⟨_, rfl⟩
    · exact ⟨_, rfl⟩
  · rw [decodeEvent_resetWord]
    exact ⟨_, exec_reset_of_mapped hmapped⟩

/-- Settles O58: the invariant holds the PHASE legal, so the listed word's operation goes on, and the step that it makes
keeps the invariant. -/
theorem wellFormedEventsAreAlwaysTaken : Obligations.WellFormedEventsAreAlwaysTaken := by
  intro s e es hinv hok hevents he
  have ⟨hstarted, _, _, hphase, _⟩ := hinv
  obtain ⟨t, ht⟩ := exec_decodeEvent_next (s := s.setEvents es) hphase he
  have hstep : step s = .next t := (step_listed hok hstarted hevents).trans ht
  exact ⟨t, hstep, exec_next_events ht, stepKeepsTheInvariant s t hinv hstep⟩

theorem State.setEdgef_of_edgef {s : State} {b : Bool} (h : s.edgef = b) : s.setEdgef b = s := by
  subst h
  rfl

@[simp] theorem State.setEdgef_setEdgef (s : State) (a b : Bool) : (s.setEdgef a).setEdgef b = s.setEdgef b := rfl

theorem exec_edge (s : State) : exec .edge s = .next (s.setEdgef true) := rfl

theorem exec_waitEnter (s : State) : exec .waitEnter s = .next ((s.setEdgef false).goto .waitPoll) := rfl

/-- WAIT_ENTER overwrites EDGEF, whatever it was (R103). -/
theorem exec_waitEnter_setEdgef (s : State) (b : Bool) : exec .waitEnter (s.setEdgef b) = exec .waitEnter s := by
  rw [exec_waitEnter, exec_waitEnter, State.setEdgef_setEdgef]

/-- Settles O45: EDGE writes EDGEF alone, and WAIT_ENTER overwrites it. -/
theorem edgeSetsTheFlag : Obligations.EdgeSetsTheFlag := by
  refine fun s => ⟨exec_edge s, fun hset => ?_, exec_waitEnter_setEdgef s true⟩
  rw [exec_edge, State.setEdgef_of_edgef hset]

/-- The handler neither reads nor writes EDGEF (R196, R215). -/
theorem rolloverHandler_setEdgef (s : State) (b : Bool) :
    rolloverHandler (s.setEdgef b) = (rolloverHandler s).setEdgef b := by
  rw [rolloverHandler_eq, rolloverHandler_eq]
  rfl

/-- Settles O47: the handler commutes with the write of EDGEF. -/
theorem edgeAndRolloverCommute : Obligations.EdgeAndRolloverCommute := by
  intro s hok hstarted
  have hok' : (rolloverHandler s).cfg.ok = true := by rw [rolloverHandler_cfg, hok]
  have hstarted' : (rolloverHandler s).started = true := (rolloverHandler_started s).trans hstarted
  refine ⟨(rolloverHandler s).setEdgef true, ?_, ?_⟩
  · rw [runWords_edge _ hok hstarted, runWords_rollover (s := s.setEdgef true) _ hok hstarted, rolloverHandler_setEdgef,
      runWords_nil]
  · rw [runWords_rollover _ hok hstarted, runWords_edge _ hok' hstarted', runWords_nil]

end Sys2Proof.Machine
end

section
/-! The choices where the specification is silent: a poll beyond the last wait, an Invalid period, an empty PEND, and the
reset state of the test configuration (log entries 2, 6, 7, 8, 9). -/

namespace Sys2Proof.Machine

/-- Beyond the last wait a tick without an edge has no counter to go to (log entry 9). -/
theorem pollOnce_of_beyond {s : State} (hintr : s.intr = false) (hedge : s.edgef = false)
    (hwix : s.cfg.settleWaits + 5 ≤ s.wix) : pollOnce s = s.goto .waitPoll := by
  have hindex : s.wix - s.cfg.settleWaits + 1 = s.wix - (s.cfg.settleWaits + 5) + 6 := by omega
  rw [pollOnce_of_measuring hintr hedge (by omega), hindex, State.countTick, Counters.set_above]

/-- Settles O14: the abort and the edge as in any wait, and the tick that counts nowhere. -/
theorem waitPollBeyondTheLastWaitCountsNothing : Obligations.WaitPollBeyondTheLastWaitCountsNothing := by
  intro s hwix
  have hpoll : exec .waitPoll s = .next (pollOnce s) := exec_phase_instr s .waitPoll
  rw [hpoll]
  refine ⟨fun hintr => ?_, fun hintr hedge => ?_, fun hintr hedge => ?_⟩
  · rw [pollOnce_of_intr hintr]
    rfl
  · rw [pollOnce_of_edge hintr hedge (by omega)]
    rfl
  · rw [pollOnce_of_beyond hintr hedge hwix]
    rfl

theorem applyWrite_setOut (w : Write) (s : State) (o : DecodeOutcome) :
    applyWrite w (s.setOut o) = (applyWrite w s).setOut o := by
  cases w <;> rfl

/-- The delivery of a write list neither reads nor writes OUT (R140). -/
theorem deliver_setOut (ws : List Write) (s : State) (o : DecodeOutcome) :
    deliver ws (s.setOut o) = (deliver ws s).setOut o := by
  unfold deliver
  rw [applyAll_comm (f := (State.setOut · o)) (fun w s => applyWrite_setOut w s o), State.setOut_cfg]
  split_ifs <;> rfl

/-- A delivery made under another OUT is that of the state's own, once its own OUT is back. -/
theorem setOut_deliver_setOut (ws : List Write) (s : State) (o : DecodeOutcome) :
    (deliver ws (s.setOut o)).setOut s.out = deliver ws s := by
  have hback : (s.setOut o).setOut s.out = s := rfl
  rw [← deliver_setOut, hback]

/-- INTERPRET of an Invalid OUT delivers the list of a free period (log entry 6). -/
theorem exec_interpret_of_invalid {s : State} (hout : s.out = .invalid) :
    exec .interpret s =
      .next (deliver (writeList s.cfg s.mode s.tgt (Config.freePeriod s.freeIndex).toNat) s.useFree) := by
  have hperiod : s.period = Config.freePeriod s.freeIndex := by simp [State.period, hout]
  have hused : s.afterPeriod = s.useFree := by simp [State.afterPeriod, hout]
  rw [← hperiod, ← hused]
  exact exec_phase_instr s .interpret

/-- Settles O20: both runs deliver one list, and the delivery passes over OUT. -/
theorem interpretOfInvalidUsesAFreePeriod : Obligations.InterpretOfInvalidUsesAFreePeriod := by
  intro s hout
  refine ⟨_, exec_interpret_of_valid (s := s.useFree.setOut (.valid (Config.freePeriod s.freeIndex))) rfl, ?_⟩
  rw [exec_interpret_of_invalid hout,
    ← setOut_deliver_setOut _ s.useFree (.valid (Config.freePeriod s.freeIndex)), State.useFree_out, hout]
  rfl

theorem applyWrite_useFree (w : Write) (s : State) : applyWrite w s.useFree = (applyWrite w s).useFree := by
  cases w <;> rfl

/-- The effect of one write does not reach the free index (R141). -/
theorem applyWrite_freeIndex (w : Write) (s : State) : (applyWrite w s).freeIndex = s.freeIndex := by
  rw [applyWrite_frame]

/-- Settles O23: `commitOnce_of_pend_nil`, and the free write passes over the free index. -/
theorem commitOfNothingAppliesAFreeWrite : Obligations.CommitOfNothingAppliesAFreeWrite := by
  intro s hpend
  have hexec : exec .commit s = .next (commitOnce s) := exec_phase_instr s .commit
  rw [hexec, commitOnce_of_pend_nil hpend, applyWrite_useFree, State.useFree, applyWrite_freeIndex]
  rfl

/-- A RESET keeps of the state before it only the configuration, the listed events and the free index (R36, R240). -/
theorem resetRegs_congr {s t : State} (hcfg : s.cfg = t.cfg) (hevents : s.events = t.events)
    (hfree : s.freeIndex = t.freeIndex) (m : OpMode) : s.resetRegs m = t.resetRegs m := by
  simp only [State.resetRegs, hcfg, hevents, hfree]

/-- Settles O50: `State.reset` is its own register table, and TC maps the pins 0b00 to Absolute mode. -/
theorem resetStateIsAResetUnderTheTestConfiguration : Obligations.ResetStateIsAResetUnderTheTestConfiguration := by
  intro s hcfg hevents hfree
  have hmapped : s.cfg.modeMap.lookup 0b00#2 = some .absolute := by
    rw [hcfg]
    rfl
  have htable : State.reset.resetRegs .absolute = State.reset := rfl
  rw [exec_reset_of_mapped hmapped, resetRegs_congr (t := State.reset) hcfg hevents hfree, htable]

end Sys2Proof.Machine
end
